-- ==== Sys2Proof/Word.lean ====
section
/-! DEFINITION.
The two word sizes of the machine: every memory cell, accumulator and register of the block is a byte,
every address and index register a 16-bit word (00_scope R6, R12).
-/

namespace Sys2Proof

/-- Eight bits (00 R6). -/
abbrev Byte := BitVec 8

/-- Sixteen bits (00 R6). -/
abbrev Word := BitVec 16

end Sys2Proof
end

