-- ==== Sys2Proof/Machine/Bits.lean ====
section
/-! DEFINITION.
Bytes and words: byte order, sign extension, single bits (00_scope R12, R13).
-/

namespace Sys2Proof

/-- The high byte, `x[15:8]`. -/
def hi8 (w : Word) : Byte := w.extractLsb' 8 8

/-- The low byte, `x[7:0]`. -/
def lo8 (w : Word) : Byte := w.extractLsb' 0 8

/-- `h : l`, the high byte first (00 R13, 20 R148). -/
def mk16 (h l : Byte) : Word := h ++ l

/-- `sext_16` of a relative offset (30 R181). -/
def sext16 (b : Byte) : Word := b.signExtend 16

/-- `zext_16` of a byte (30 R177, R179). -/
def zext16 (b : Byte) : Word := b.setWidth 16

/-- Bit `k` of a byte. -/
def bit (b : Byte) (k : Nat) : Bool := b.getLsbD k

/-- The byte with only bit `k`, set when `v`. -/
def bitAt (k : Nat) (v : Bool) : Byte := if v then 1#8 <<< k else 0

/-- The byte with bit `k` made `v`. -/
def setBit (b : Byte) (k : Nat) (v : Bool) : Byte := (b &&& ~~~(1#8 <<< k)) ||| bitAt k v

/-- Of two bytes, the bits of `x` where `mask` is set and of `y` elsewhere. -/
def blend (mask x y : Byte) : Byte := (x &&& mask) ||| (y &&& ~~~mask)

end Sys2Proof
end

