-- ==== Sys2Proof/Config.lean ====
section
/-! DEFINITION.
The parameters of 00_scope R7 that one machine keeps for good, and the FREE VALUES: values the spec leaves
open. A free value is an opaque constant, so that nothing can be proved of it (assumption log 4); the
step reads it at a counter that the state holds.
-/

namespace Sys2Proof

/-- The `n`-th free byte: a byte the spec calls unspecified (assumption log 4). -/
opaque Config.freeByte : Nat → Byte

/-- The `n`-th free word: a 16-bit result the spec calls unspecified (assumption log 4). -/
opaque Config.freeWord : Nat → Word

/-- The `n`-th free bit: a flag the spec calls unspecified (assumption log 4). -/
opaque Config.freeBit : Nat → Bool

/-- What byte `off` of the RAM holds after the `epoch`-th reset, until it is written: any value after
every reset (20 R142, 70 R524, 92 D6; assumption log 5). -/
opaque Config.ramInit (epoch off : Nat) : Byte

/-- Byte `off` of the bootstrap ROM at $BF00 to $BFFF, the parameter `boot_rom` (00 R7, 20 R145). -/
opaque Config.bootRom (off : Nat) : Byte

/-- The E cycles of the start-up delay on the exit from STOP with OPTION.DLY = 1, whose length the spec leaves
open (45 R413, 93 U24; assumption log 15). -/
opaque Config.stopDelay : Nat

/-- The size of the internal RAM, the parameter `ram_size` of this part (00 R7). -/
def Config.ramSize : Nat := 1024

/-- The size of the EEPROM (00 R6). -/
def Config.eepromSize : Nat := 512

/-- The parameter `t_protect_start`, the offset of the first cycle of the write window (70 R530). -/
def Config.tProtectStart : Nat := 0

/-- The E cycles of an exception entry (60 R440). -/
def Config.entryCycles : Nat := 14

/-- The E cycles of a vector fetch: at reset (70 R530) and at the end of a wait (45 R410). -/
def Config.vectorCycles : Nat := 2

end Sys2Proof
end

