-- ==== Sys2Proof/Machine/State.lean ====
section
/-! DEFINITION.
The state of the machine as plain data (10_state), the reasons a step could stop, and the state right
after reset (70_reset_and_hazards R520 to R526). INVENTORY.md lists each field with its rule.
-/

namespace Sys2Proof.Machine

/-- The reasons for a fault. There are none: no access, alignment, protection or arithmetic fault exists
on this machine (00 R17, 60 R420), every exception it has is taken as a next state (safe). -/
inductive Fault where
deriving DecidableEq, Repr

/-- The reasons for a refusal. -/
inductive Refusal where
  /-- The instruction has no meaning in the model; raised only by an arm of `exec` (safe). No arm raises
  it: every instruction has its meaning. -/
  | notModelled (mnemonic : String)
deriving DecidableEq, Repr

/-- The condition code register (10 R25): stop disable, XIRQ mask, half carry, interrupt mask, negative,
zero, overflow, carry. -/
structure Ccr where
  s : Bool
  x : Bool
  h : Bool
  i : Bool
  n : Bool
  z : Bool
  v : Bool
  c : Bool
deriving DecidableEq, Repr

/-- What the CPU is doing (10 R35): running, waiting after WAI, stopped after STOP, or in TEST. -/
inductive RunState where
  | running | waiting | stopped | testing
deriving DecidableEq, Repr

/-- The operating modes (10 R84). -/
inductive OpMode where
  | singleChip | expanded | bootstrap | specialTest
deriving DecidableEq, Repr

/-- The memory arrays, each a list of the cells that differ from what an unlisted cell holds, keyed by the
offset in the array, in strictly rising order (20 R141 to R147). -/
structure Memory where
  ram : List Host.Cell
  eeprom : List Host.Cell
  boot : List Host.Cell
  ext : List Host.Cell
deriving DecidableEq, Repr

/-- The port latches and data direction registers (10 R42 to R49). -/
structure Ports where
  a : Byte
  ddra : Byte
  g : Byte
  ddrg : Byte
  b : Byte
  f : Byte
  c : Byte
  ddrc : Byte
  d : Byte
  ddrd : Byte
deriving DecidableEq, Repr

/-- Main timer, real-time interrupt and pulse accumulator registers (10 R54 to R67), the prescaler phase
and gated-mode divider (10 R35), and the levels the compares drive on PA7 to PA3 (60 R471). -/
structure Timer where
  oc1m : Byte
  oc1d : Byte
  tcnt : Word
  tic1 : Word
  tic2 : Word
  tic3 : Word
  toc1 : Word
  toc2 : Word
  toc3 : Word
  toc4 : Word
  ti4o5 : Word
  tctl1 : Byte
  tctl2 : Byte
  tmsk1 : Byte
  tflg1 : Byte
  tmsk2 : Byte
  tflg2 : Byte
  pactl : Byte
  pacnt : Byte
  phase : Nat
  paPhase : Nat
  ocOut : Byte
deriving DecidableEq, Repr

/-- What the SCI transmit shift register sends (60 R480). -/
inductive TxFrame where
  /-- A character, with its ninth bit where the frame has one. -/
  | char (data : Byte) (ninth : Option Bool)
  /-- An idle preamble, one frame of ones. -/
  | preamble
  /-- A break, one frame of zeros. -/
  | breakCode
deriving DecidableEq, Repr

/-- The SCI registers (10 R71 to R75), its buffers and hidden state (10 R35, 60 R480, R481). -/
structure Sci where
  baud : Byte
  sccr1 : Byte
  sccr2 : Byte
  scsr : Byte
  rdr : Byte
  tdr : Byte
  tdrFull : Bool
  frame : Option TxFrame
  left : Nat
  preamble : Bool
  readMask : Byte
  rxActive : Bool
deriving DecidableEq, Repr

/-- The SPI registers (10 R68 to R70), its shift register and hidden state (10 R35, 60 R485); `left` is 0
while no exchange is in progress. -/
structure Spi where
  spcr : Byte
  spsr : Byte
  rdBuf : Byte
  shift : Byte
  left : Nat
  readMask : Byte
deriving DecidableEq, Repr

/-- The A/D registers (10 R76, R77) and the conversion sequence in progress (60 R488). -/
structure Adc where
  adctl : Byte
  adr1 : Byte
  adr2 : Byte
  adr3 : Byte
  adr4 : Byte
  active : Bool
  idx : Nat
  left : Nat
deriving DecidableEq, Repr

/-- What the EEPROM address latch points at (60 R495, R496). -/
inductive EeTarget where
  | array (off : Nat)
  | config
deriving DecidableEq, Repr

/-- EEPROM protection and programming control (10 R78, R83) and the address and data latches (10 R35). -/
structure EeCtl where
  bprot : Byte
  pprog : Byte
  latch : Option (EeTarget × Byte)
deriving DecidableEq, Repr

/-- Options, mode, mapping, configuration and chip-select registers (10 R80, R81, R84 to R92), the CONFIG
cells, the forced clock monitor and the write-once latches (10 R35). -/
structure Sys where
  opt2 : Byte
  option : Byte
  hprio : Byte
  init : Byte
  config : Byte
  configCells : Byte
  csstrh : Byte
  csctl : Byte
  csgadr : Byte
  csgsiz : Byte
  forcedCm : Bool
  wroteInit : Bool
  wroteOption : Bool
  wroteTmsk2 : Bool
  wroteBprot : Bool
  wroteClk4x : Bool
  wroteMda : Bool
deriving DecidableEq, Repr

/-- The COP watchdog: whether $55 has armed it, and the E cycles since it was cleared (60 R475). -/
structure Cop where
  armed : Bool
  count : Nat
deriving DecidableEq, Repr

/-- The levels of the input pins (00 R7, 92 D28): RESET, IRQ and XIRQ (active low), MODB and MODA, and of
the pins of ports A, C, D, E and G. -/
structure Pins where
  reset : Bool
  irq : Bool
  xirq : Bool
  modb : Bool
  moda : Bool
  pa : Byte
  pc : Byte
  pd : Byte
  pe : Byte
  pg : Byte
deriving DecidableEq, Repr

/-- What the environment can do to the chip at an instruction boundary (60 R460, 92 D28). -/
inductive Event where
  /-- Nothing. -/
  | idle
  /-- The input pins take these levels. -/
  | pins (p : Pins)
  /-- The clock is slow or stopped (60 R476). -/
  | clockFail
  /-- The SCI receives a character (60 R481). -/
  | sciRx (data : Byte) (ninth framingOk noisy : Bool)
  /-- RxD has been idle for a frame time after activity (60 R481). -/
  | sciIdle
  /-- An SPI master clocks a byte into this chip as a slave (60 R485). -/
  | spiSlave (data : Byte)
  /-- The byte the next exchange of this chip as SPI master receives (60 R485). -/
  | spiReply (data : Byte)
  /-- Analog input `ch` now converts to this value (60 R488). -/
  | analog (ch : Fin 8) (value : Byte)
deriving DecidableEq, Repr

/-- What the chip sends on its serial lines (60 R480, R485). -/
inductive Output where
  | sciTx (data : Byte) (ninth : Option Bool)
  | sciBreak
  | spiXfer (data : Byte)
deriving DecidableEq, Repr

/-- The environment: events still to come, the outputs so far (newest first), the levels and values it
supplies, and whether external memory answers (00 R7). -/
structure Env where
  inputs : List Event
  outputs : List Output
  pins : Pins
  analog : Vector Byte 8
  spiIn : Byte
  extPresent : Bool
deriving DecidableEq, Repr

/-- The whole machine. -/
structure State where
  a : Byte
  b : Byte
  ix : Word
  iy : Word
  sp : Word
  pc : Word
  ccr : Ccr
  run : RunState
  /-- `inhibit_irq_once` (45 R409). -/
  inhibit : Bool
  mem : Memory
  ports : Ports
  timer : Timer
  sci : Sci
  spi : Spi
  adc : Adc
  ee : EeCtl
  sys : Sys
  cop : Cop
  /-- The edge latch of the IRQ pin (60 R431). -/
  irqEdge : Bool
  /-- A clock monitor reset is due (60 R476). -/
  clockFail : Bool
  /-- A COP reset is due (60 R475). -/
  copFail : Bool
  /-- The mode latched from MODB and MODA (60 R451). -/
  mode : OpMode
  /-- E cycles since reset (70 R530); also the free-running dividers (60 R474, R475). -/
  cycles : Nat
  env : Env
  /-- How many free values have been used (assumption log 4). -/
  draws : Nat
  /-- How many resets the RAM has been through (assumption log 5). -/
  ramEpoch : Nat
  /-- E cycles spent on the bus and not yet counted by the devices (assumption log 9). -/
  owed : Nat
  /-- What a 16-bit read of TCNT returns during this instruction (70 R550). -/
  tcnt16 : Word
deriving DecidableEq, Repr

/-- The pins when nothing is asserted and the mode is expanded (assumption logs 2, 30). -/
def Pins.initial : Pins :=
  { reset := true, irq := true, xirq := true, modb := true, moda := true,
    pa := 0, pc := 0, pd := 0, pe := 0, pg := 0 }

/-- The machine right after reset (70 R520 to R526), in expanded mode with an erased EEPROM (assumption
log 2), so that the vector fetched is $FFFF; a register the spec gives no value holds zero (assumption
logs 1, 3). DESIGN CHOICE (assumption log 7): external memory answers, `extPresent`, where the default of
92 D4 for the open parameter `ext_bus` is that nothing does. -/
def State.reset : State :=
  { a := 0, b := 0, ix := 0, iy := 0, sp := 0, pc := 0xFFFF,
    ccr := { s := true, x := true, h := false, i := true,
             n := false, z := false, v := false, c := false },
    run := .running, inhibit := false,
    mem := { ram := [], eeprom := [], boot := [], ext := [] },
    ports := { a := 0, ddra := 0, g := 0, ddrg := 0, b := 0, f := 0, c := 0, ddrc := 0,
               d := 0, ddrd := 0 },
    timer := { oc1m := 0, oc1d := 0, tcnt := 0, tic1 := 0, tic2 := 0, tic3 := 0,
               toc1 := 0xFFFF, toc2 := 0xFFFF, toc3 := 0xFFFF, toc4 := 0xFFFF, ti4o5 := 0xFFFF,
               tctl1 := 0, tctl2 := 0, tmsk1 := 0, tflg1 := 0, tmsk2 := 0, tflg2 := 0,
               pactl := 0, pacnt := 0, phase := 0, paPhase := 0, ocOut := 0 },
    sci := { baud := 0, sccr1 := 0, sccr2 := 0, scsr := 0xC0, rdr := 0, tdr := 0, tdrFull := false,
             frame := none, left := 0, preamble := false, readMask := 0, rxActive := false },
    spi := { spcr := 0x04, spsr := 0, rdBuf := 0, shift := 0, left := 0, readMask := 0 },
    adc := { adctl := 0, adr1 := 0, adr2 := 0, adr3 := 0, adr4 := 0,
             active := false, idx := 0, left := 0 },
    ee := { bprot := 0x1F, pprog := 0, latch := none },
    sys := { opt2 := 0x20, option := 0x10, hprio := 0x26, init := 0x01, config := 0xFF,
             configCells := 0xFF, csstrh := 0, csctl := 0x04, csgadr := 0, csgsiz := 0x07,
             forcedCm := false, wroteInit := false, wroteOption := false, wroteTmsk2 := false,
             wroteBprot := false, wroteClk4x := false, wroteMda := false },
    cop := { armed := false, count := 0 },
    irqEdge := false, clockFail := false, copFail := false, mode := .expanded, cycles := 0,
    env := { inputs := [], outputs := [], pins := Pins.initial,
             analog := #v[0, 0, 0, 0, 0, 0, 0, 0], spiIn := 0, extPresent := true },
    draws := 0, ramEpoch := 0, owed := 2, tcnt16 := 0 }

end Sys2Proof.Machine
end

