-- ==== Sys2Proof/Machine/Free.lean ====
section
/-! DEFINITION.
Reading free values (assumption log 4): each read takes the next value of the opaque stream and counts it.
-/

namespace Sys2Proof.Machine

/-- One more free value used. -/
def State.drawn (s : State) : State := { s with draws := s.draws + 1 }

/-- A byte the spec calls unspecified. -/
def drawByte (s : State) : Byte × State := (Config.freeByte s.draws, s.drawn)

/-- A word the spec calls unspecified. -/
def drawWord (s : State) : Word × State := (Config.freeWord s.draws, s.drawn)

/-- A flag the spec calls unspecified. -/
def drawBit (s : State) : Bool × State := (Config.freeBit s.draws, s.drawn)

end Sys2Proof.Machine
end

