-- ==== Sys2Proof/Machine/Converter.lean ====
section
/-! DEFINITION.
The A/D converter (10_state R76, R77, 60_exceptions R488).
-/

namespace Sys2Proof.Machine

/-- The channel of the conversion in progress: CD:CC with the index where MULT = 1, else CD to CA
(60 R488). -/
def Adc.channel (d : Adc) : Nat :=
  if bit d.adctl 4 then d.adctl.toNat % 16 / 4 * 4 + d.idx % 4 else d.adctl.toNat % 16

/-- OPTION.ADPU: the converter is powered up (10 R81, 60 R454). -/
def State.adcOn (s : State) : Bool := bit s.sys.option 7

/-- A conversion result: the environment's sample of channels 0 to 7, the nominal $FF, $00, $80 of the
test channels 12, 13, 14, a free value on the reserved channels (10 R76, 60 R488). -/
def adcSample (s : State) : Byte × State :=
  let ch := s.adc.channel
  if h : ch < 8 then (s.env.analog[ch], s)
  else match ch with
    | 12 => (0xFF, s)
    | 13 => (0x00, s)
    | 14 => (0x80, s)
    | _ => drawByte s

/-- Conversion `idx` is complete: result register `idx + 1` takes it; the fourth sets CCF, and the
sequence repeats where SCAN = 1 (60 R488). -/
def Adc.store (v : Byte) (d : Adc) : Adc :=
  match d.idx with
  | 0 => { d with adr1 := v, idx := 1, left := 32 }
  | 1 => { d with adr2 := v, idx := 2, left := 32 }
  | 2 => { d with adr3 := v, idx := 3, left := 32 }
  | _ => { d with adr4 := v, idx := 0, left := 32, adctl := d.adctl ||| 0x80, active := bit d.adctl 5 }

/-- One E cycle of the converter; a conversion takes 32 (60 R488). While ADPU = 0 it is powered down and does
nothing (60 R454); DESIGN CHOICE (assumption log 26): that ends a sequence under way for good. -/
def adcTick (s : State) : State :=
  if !s.adcOn then { s with adc := { s.adc with active := false } }
  else if !s.adc.active then s
  else if 1 < s.adc.left then { s with adc := { s.adc with left := s.adc.left - 1 } }
  else
    let r := adcSample s
    { r.2 with adc := r.2.adc.store r.1 }

/-- A write of ADCTL: CCF is cleared and a sequence of four conversions starts (10 R76, 60 R488), but for a
converter that is not powered up, which takes the control bits only (60 R454; assumption log 26). -/
def Adc.writeAdctl (on : Bool) (v : Byte) (d : Adc) : Adc :=
  { d with adctl := v &&& 0x3F, active := on, idx := 0, left := 32 }

end Sys2Proof.Machine
end

