-- ==== Sys2Proof/Machine/Memory.lean ====
section
/-! DEFINITION.
The memory arrays (20_memory R141 to R147): lists of cells in one canonical form, read and written by
offset. What an unlisted cell holds is said once, in `Region.unlisted`.
-/

namespace Sys2Proof.Machine

/-- The byte a cell list holds at a key, if it lists one. -/
def cellAt : List Host.Cell → Nat → Option Byte
  | [], _ => none
  | (k, v) :: cs, a => if k = a then some v else cellAt cs a

/-- List byte `v` at key `a`, keeping the keys rising. -/
def setCell : List Host.Cell → Nat → Byte → List Host.Cell
  | [], a, v => [(a, v)]
  | (k, w) :: cs, a, v =>
    if a < k then (a, v) :: (k, w) :: cs
    else if a = k then (a, v) :: cs
    else (k, w) :: setCell cs a v

/-- List nothing at the keys where `p` holds. -/
def dropCells (p : Nat → Bool) (cs : List Host.Cell) : List Host.Cell := cs.filter fun c => !p c.1

/-- Keys at least `lo`, strictly rising, below `size`, and no cell that holds `unlisted`. -/
def cellsWf (unlisted : Option Byte) (size : Nat) : Nat → List Host.Cell → Bool
  | _, [] => true
  | lo, (k, v) :: cs =>
    decide (lo ≤ k) && decide (k < size) && decide (unlisted ≠ some v) &&
      cellsWf unlisted size (k + 1) cs

/-- The arrays behind the address map (20 R141). -/
inductive Region where
  | ram | eeprom | boot | ext
deriving DecidableEq, Repr

/-- The number of bytes of an array (00 R6, R7, 20 R140, R145). -/
def Region.size : Region → Nat
  | .ram => Config.ramSize
  | .eeprom => Config.eepromSize
  | .boot => 256
  | .ext => 65536

/-- What a cell that is not listed holds: $FF in the EEPROM, the erased state (60 R495); elsewhere no
value the state knows, so that a read answers a free value (assumption logs 5, 6, 7). -/
def Region.unlisted : Region → Option Byte
  | .eeprom => some 0xFF
  | _ => none

/-- The cells of an array. -/
def Memory.cells (m : Memory) : Region → List Host.Cell
  | .ram => m.ram
  | .eeprom => m.eeprom
  | .boot => m.boot
  | .ext => m.ext

/-- Memory with the cells of one array replaced. -/
def Memory.withCells (m : Memory) (cs : List Host.Cell) : Region → Memory
  | .ram => { m with ram := cs }
  | .eeprom => { m with eeprom := cs }
  | .boot => { m with boot := cs }
  | .ext => { m with ext := cs }

/-- The byte at an offset of an array; none where its value is open. -/
def Memory.get (m : Memory) (r : Region) (off : Nat) : Option Byte :=
  (cellAt (m.cells r) off).or r.unlisted

/-- Store a byte at an offset of an array; nothing outside the array. -/
def Memory.put (m : Memory) (r : Region) (off : Nat) (v : Byte) : Memory :=
  if r.size ≤ off then m
  else if r.unlisted = some v then m.withCells (dropCells (· == off) (m.cells r)) r
  else m.withCells (setCell (m.cells r) off v) r

/-- Make the bytes of an array where `p` holds what an unlisted cell holds. -/
def Memory.clearWhere (m : Memory) (r : Region) (p : Nat → Bool) : Memory :=
  m.withCells (dropCells p (m.cells r)) r

/-- Every array is in canonical form. -/
def Memory.wf (m : Memory) : Bool :=
  cellsWf Region.ram.unlisted Region.ram.size 0 m.ram &&
  cellsWf Region.eeprom.unlisted Region.eeprom.size 0 m.eeprom &&
  cellsWf Region.boot.unlisted Region.boot.size 0 m.boot &&
  cellsWf Region.ext.unlisted Region.ext.size 0 m.ext

end Sys2Proof.Machine
end

