-- ==== Sys2Proof/Machine/Map.lean ====
section
/-! DEFINITION.
The operating mode bits, the address map (20_memory R141) and the chip-select clock stretch (70 R545).
-/

namespace Sys2Proof.Machine

/-- HPRIO.SMOD: a special mode (10 R84). -/
def State.smod (s : State) : Bool := bit s.sys.hprio 6

/-- HPRIO.MDA: a mode with the external bus (10 R84, 60 R452). -/
def State.mda (s : State) : Bool := bit s.sys.hprio 5

/-- HPRIO.RBOOT: the bootstrap ROM is in the map (10 R84). -/
def State.rboot (s : State) : Bool := bit s.sys.hprio 7

/-- CONFIG.EEON: the EEPROM is in the map (10 R87). -/
def State.eeon (s : State) : Bool := bit s.sys.config 0

/-- PPROG.EELAT: the EEPROM is set up for programming (10 R83). -/
def State.eelat (s : State) : Bool := bit s.ee.pprog 1

/-- The first address of the EEPROM: EE[3:0] : $E00, but $FE00 without the external bus (10 R87,
60 R452). -/
def eepromBase (s : State) : Nat :=
  if s.mda then s.sys.config.toNat / 16 * 0x1000 + 0xE00 else 0xFE00

/-- What an address selects. -/
inductive Target where
  /-- A register of the block, by its offset. -/
  | reg (off : Nat)
  /-- A byte of an array. -/
  | mem (r : Region) (off : Nat)
  /-- Nothing answers. -/
  | nothing
deriving DecidableEq, Repr

/-- `resolve` of 20 R141: register block, RAM, bootstrap ROM, EEPROM, external, in this order. -/
def resolve (s : State) (a : Word) : Target :=
  let page := a.toNat / 0x1000
  let low := a.toNat % 0x1000
  if page = s.sys.init.toNat % 16 ∧ low < 0x80 then .reg low
  else if page = s.sys.init.toNat / 16 ∧ low < Config.ramSize then .mem .ram low
  else if s.rboot = true ∧ 0xBF00 ≤ a.toNat ∧ a.toNat ≤ 0xBFFF then .mem .boot (a.toNat - 0xBF00)
  else if s.eeon = true ∧ eepromBase s ≤ a.toNat ∧ a.toNat ≤ eepromBase s + 0x1FF then
    .mem .eeprom (a.toNat - eepromBase s)
  else if s.mda = true ∧ s.env.extPresent = true then .mem .ext a.toNat
  else .nothing

/-- CSPROG is active: PCSEN, and the address in the top 64, 32, 16 or 8 Kbytes (10 R90, 20 R159). -/
def csprogActive (s : State) (a : Word) : Bool :=
  bit s.sys.csctl 2 && decide (0x10000 - 0x10000 / 2 ^ (s.sys.csctl.toNat % 4) ≤ a.toNat)

/-- CSGEN is active: the address agrees with GA[15:10] in the bits that the size leaves (10 R91, R92). -/
def csgenActive (s : State) (a : Word) : Bool :=
  let size := s.sys.csgsiz.toNat % 8
  decide (size ≠ 7) &&
    decide (a.toNat / (0x10000 / 2 ^ size) = s.sys.csgadr.toNat * 256 / (0x10000 / 2 ^ size))

/-- The E cycles by which an external bus cycle at `a` is stretched (10 R89, 20 R159, 70 R545); CSIO1 and
CSIO2 have no address range in the spec (assumption log 29). -/
def stretch (s : State) (a : Word) : Nat :=
  let prog := s.sys.csstrh.toNat % 4
  let gen := s.sys.csstrh.toNat / 4 % 4
  match csprogActive s a, csgenActive s a with
  | true, true => if bit s.sys.csctl 3 then gen else prog
  | true, false => prog
  | false, true => gen
  | false, false => 0

/-- An external bus cycle at `a` takes place in an expanded mode (20 R147). -/
def busCycle (a : Word) (s : State) : State :=
  if s.mda then { s with owed := s.owed + stretch s a } else s

end Sys2Proof.Machine
end

