-- ==== Sys2Proof/Machine/Eeprom.lean ====
section
/-! DEFINITION.
EEPROM and CONFIG programming (10_state R78, R83, 20_memory R158, 60_exceptions R495, R496).
-/

namespace Sys2Proof.Machine

/-- The BPROT bit of the block an EEPROM byte is in (10 R78). -/
def protectBit (off : Nat) : Nat :=
  if off < 0x20 then 0 else if off < 0x60 then 1 else if off < 0xE0 then 2 else 3

/-- The byte cannot be programmed or erased (20 R158). -/
def EeCtl.protects (e : EeCtl) (off : Nat) : Bool := bit e.bprot (protectBit off)

/-- The CONFIG cells cannot be programmed or erased (10 R78). -/
def EeCtl.protectsConfig (e : EeCtl) : Bool := bit e.bprot 4

/-- Erase the unprotected bytes of the array where `p` holds (60 R495). -/
def eraseWhere (p : Nat → Bool) (s : State) : State :=
  { s with mem := s.mem.clearWhere .eeprom fun off => p off && !s.ee.protects off }

/-- Program one byte: ones may become zeros (60 R495). -/
def programByte (off : Nat) (v : Byte) (s : State) : State :=
  { s with mem := s.mem.put .eeprom off (((s.mem.get .eeprom off).getD 0xFF) &&& v) }

/-- Give the CONFIG cells a value (60 R496). -/
def setConfigCells (v : Byte) (s : State) : State :=
  { s with sys := { s.sys with configCells := v } }

/-- The effect of EEPGM going from 1 to 0, by the mode bits ERASE, BYTE, ROW of PPROG and the latched
address (60 R495): a sequence aimed at a protected address leaves the array unchanged, whatever its size
(20 R158); one aimed at CONFIG is allowed only while PTCON = 0, and erases only in bulk (60 R496). -/
def eeCommit (target : EeTarget) (v : Byte) (s : State) : State :=
  let erase := bit s.ee.pprog 2
  let byteMode := bit s.ee.pprog 4
  let rowMode := bit s.ee.pprog 3
  match target with
  | .array off =>
    if s.ee.protects off then s
    else if !erase then programByte off v s
    else if byteMode then eraseWhere (· == off) s
    else if rowMode then eraseWhere (fun o => o / 16 == off / 16) s
    else eraseWhere (fun _ => true) s
  | .config =>
    if s.ee.protectsConfig then s
    else if !erase then setConfigCells (s.sys.configCells &&& v) s
    else if byteMode || rowMode then s
    else setConfigCells 0xFF (eraseWhere (fun _ => true) s)

/-- What PPROG holds after a write: ODD, EVEN and bit 5 read 0, and EEPGM is taken only where EELAT was
already 1 (10 R83, 60 R495). -/
def pprogValue (old v : Byte) : Byte := if bit old 1 then v &&& 0x1F else v &&& 0x1E

/-- A write of PPROG: where it ends the program command the command takes effect; where it clears EELAT
the latches empty (60 R495). DESIGN CHOICE (assumption log 27): where PPROG, the latches or BPROT are rewritten
while EEPGM = 1, of which the spec says nothing, the command is the one that they describe just before the write
that clears EEPGM: its ERASE, BYTE and ROW, its latched address and data, its protection. -/
def writePprog (v : Byte) (s : State) : State :=
  let new := pprogValue s.ee.pprog v
  let s := match s.ee.latch with
    | some (target, data) => if bit s.ee.pprog 0 && !bit new 0 then eeCommit target data s else s
    | none => s
  { s with ee := { s.ee with pprog := new, latch := if bit new 1 then s.ee.latch else none } }

/-- A write to an EEPROM address or to CONFIG while EELAT = 1 latches address and data (20 R144). -/
def latchWrite (target : EeTarget) (v : Byte) (s : State) : State :=
  if s.eelat then { s with ee := { s.ee with latch := some (target, v) } } else s

end Sys2Proof.Machine
end

