-- ==== Sys2Proof/Machine/Serial.lean ====
section
/-! DEFINITION.
The SCI (60_exceptions R480, R481) and the SPI (60 R485) at the level of characters and exchanges.
-/

namespace Sys2Proof.Machine

/-! ### SCI -/

/-- E cycles per bit: 16 times the SCP divisor times 2^SCR (10 R71). -/
def Sci.bitTime (s : Sci) : Nat :=
  let scp := match s.baud.toNat / 16 % 4 with
    | 0 => 1
    | 1 => 3
    | 2 => 4
    | _ => 13
  16 * scp * 2 ^ (s.baud.toNat % 8)

/-- SCCR1.M: nine data bits (10 R72). -/
def Sci.nine (s : Sci) : Bool := bit s.sccr1 4

/-- E cycles per frame of start bit, data bits and stop bit (60 R480). -/
def Sci.frameTime (s : Sci) : Nat := s.bitTime * (if s.nine then 11 else 10)

/-- Load the shift register with a frame. DESIGN CHOICE (assumption log 24): its cycles are counted here, so
that a write of BAUD or SCCR1.M while it is sent changes neither its speed nor its length, of which the spec
says nothing; and a break takes as long as a character. -/
def Sci.load (s : Sci) (f : TxFrame) : Sci := { s with frame := some f, left := s.frameTime }

/-- A free shift register takes what is to be sent while TE = 1: a break as long as SBK = 1, the preamble
and the TDR waiting (10 R73), else a preamble, else the TDR (setting TDRE) (60 R480). DESIGN CHOICE
(assumption log 24): a frame under way is not cut short by SBK, and a queued preamble waits for the end of
the breaks; the ninth bit is T8 as it is here, when the TDR moves into the shift register, not as it was when
SCDR was written, and a later write of T8 does not change the frame. -/
def Sci.start (s : Sci) : Sci :=
  if !bit s.sccr2 3 then s
  else if bit s.sccr2 0 then s.load .breakCode
  else if s.preamble then ({ s with preamble := false } : Sci).load .preamble
  else if s.tdrFull then
    ({ s with tdrFull := false, scsr := s.scsr ||| 0x80 } : Sci).load
      (.char s.tdr (if s.nine then some (bit s.sccr1 6) else none))
  else s

/-- The frame in the shift register has been sent: the next one starts, or the transmitter is idle and TC
is set (10 R74, 60 R480). -/
def Sci.endFrame (s : Sci) : Sci :=
  let t := ({ s with frame := none, left := 0 } : Sci).start
  if t.frame = none then { t with scsr := t.scsr ||| 0x40 } else t

/-- What the environment sees of a completed frame (60 R480). -/
def TxFrame.output : TxFrame → List Output
  | .char d n => [.sciTx d n]
  | .preamble => []
  | .breakCode => [.sciBreak]

/-- One E cycle of the transmitter, with what it sent. -/
def Sci.tick (s : Sci) : Sci × List Output :=
  match s.frame with
  | none => (s.start, [])
  | some f => if 1 < s.left then ({ s with left := s.left - 1 }, []) else (s.endFrame, f.output)

/-- A character is received into RDR and R8, or overruns (60 R481). -/
def Sci.receive (data : Byte) (ninth framingOk noisy : Bool) (s : Sci) : Sci :=
  if bit s.scsr 5 then { s with scsr := s.scsr ||| 0x08 }
  else
    { s with
      rdr := data
      sccr1 := if s.nine then setBit s.sccr1 7 ninth else s.sccr1
      scsr := s.scsr ||| 0x20 ||| bitAt 2 noisy ||| bitAt 1 (!framingOk) }

/-- The event `sci_rx` (60 R481): nothing without RE; a sleeping receiver (RWU = 1) wakes only on an
address mark, WAKE = 1 and the most significant data bit 1. PRESUMED (assumption log 24): a character that RWU or
an overrun loses is activity on RxD all the same. -/
def Sci.rx (data : Byte) (ninth framingOk noisy : Bool) (s : Sci) : Sci :=
  if !bit s.sccr2 2 then s
  else
    let s := { s with rxActive := true }
    if bit s.sccr2 1 then
      if bit s.sccr1 3 && (if s.nine then ninth else bit data 7) then
        ({ s with sccr2 := setBit s.sccr2 1 false } : Sci).receive data ninth framingOk noisy
      else s
    else s.receive data ninth framingOk noisy

/-- The event `sci_idle` (60 R481): IDLE after activity unless RWU = 1; with WAKE = 0 it ends RWU. PRESUMED
(assumption log 24): an idle line that a sleeping receiver sees ends the activity too. -/
def Sci.idle (s : Sci) : Sci :=
  if !bit s.sccr2 2 then s
  else if bit s.sccr2 1 then
    { s with rxActive := false, sccr2 := setBit s.sccr2 1 (bit s.sccr1 3) }
  else { s with rxActive := false, scsr := if s.rxActive then s.scsr ||| 0x10 else s.scsr }

/-- Clear the flags of `which` that the last read of SCSR saw set (10 R74). -/
def Sci.clearSeen (which : Byte) (s : Sci) : Sci :=
  { s with scsr := s.scsr &&& ~~~(s.readMask &&& which), readMask := s.readMask &&& ~~~which }

/-- A read of SCSR arms the clearing of the flags it sees (10 R74). -/
def Sci.readScsr (s : Sci) : Sci := { s with readMask := s.scsr }

/-- A read of SCDR clears RDRF, IDLE, OR, NF, FE as seen (10 R74). -/
def Sci.readScdr (s : Sci) : Sci := s.clearSeen 0x3E

/-- A write of SCDR clears TDRE and TC as seen and fills the TDR (10 R74, R75, 60 R480). DESIGN CHOICE
(assumption log 24): also while TE = 0, of which 60 R480 does not speak; it is sent once TE is set. -/
def Sci.writeScdr (v : Byte) (s : Sci) : Sci :=
  { s.clearSeen 0xC0 with tdr := v, tdrFull := true }

/-- A write of SCCR2; TE going from 0 to 1 queues a preamble (10 R73, 60 R480). PRESUMED (assumption log 24):
clearing TE keeps the frame under way and what is queued. -/
def Sci.writeSccr2 (v : Byte) (s : Sci) : Sci :=
  { s with sccr2 := v, preamble := s.preamble || (bit v 3 && !bit s.sccr2 3) }

/-! ### SPI -/

/-- E cycles of one exchange: eight SCK periods of 2, 4, 16 or 32 cycles (10 R68, 60 R485). -/
def Spi.exchangeTime (s : Spi) : Nat :=
  8 * match s.spcr.toNat % 4 with
    | 0 => 2
    | 1 => 4
    | 2 => 16
    | _ => 32

/-- SPCR.SPE (10 R68). -/
def Spi.on (s : Spi) : Bool := bit s.spcr 6

/-- SPCR.MSTR (10 R68). -/
def Spi.master (s : Spi) : Bool := bit s.spcr 4

/-- An exchange ends: the shift register and the read buffer hold the received byte, SPIF is set, and the
byte that was in the shift register has gone out (60 R485). -/
def Spi.complete (input : Byte) (s : Spi) : Spi × List Output :=
  ({ s with shift := input, rdBuf := input, left := 0, spsr := s.spsr ||| 0x80 }, [.spiXfer s.shift])

/-- One E cycle of a master exchange. -/
def Spi.tick (input : Byte) (s : Spi) : Spi × List Output :=
  match s.left with
  | 0 => (s, [])
  | 1 => s.complete input
  | n + 2 => ({ s with left := n + 1 }, [])

/-- A master clocks a byte into this chip as a slave while SS is low (60 R485). -/
def Spi.slave (data : Byte) (ss : Bool) (s : Spi) : Spi × List Output :=
  if s.on && !s.master && !ss then s.complete data else (s, [])

/-- SS is pulled low on a master whose PD5 is an input: MODF, and SPE and MSTR are cleared, which ends the
exchange (10 R69, 60 R485). -/
def Spi.modeFault (s : Spi) : Spi :=
  if s.master then { s with spsr := s.spsr ||| 0x10, spcr := s.spcr &&& 0xAF, left := 0 } else s

/-- A read of SPSR arms the clearing of the flags it sees (10 R69, 90 C15). -/
def Spi.readSpsr (s : Spi) : Spi := { s with readMask := s.spsr }

/-- An access to SPDR clears SPIF and WCOL as seen (10 R69). -/
def Spi.touchSpdr (s : Spi) : Spi :=
  { s with spsr := s.spsr &&& ~~~(s.readMask &&& 0xC0), readMask := s.readMask &&& 0x3F }

/-- A write of SPDR: a collision while an exchange is in progress; else the shift register takes the byte and
a master that is on starts its exchange (10 R69, R70, 60 R485). DESIGN CHOICE (assumption log 25): a write
that is the access which clears WCOL and itself collides leaves WCOL set; and a write while SPE = 0, or while
MSTR = 0, of which the spec does not speak, fills the shift register, starts nothing, neither then nor when SPE
or MSTR is set later, and is what a later slave exchange sends. -/
def Spi.writeSpdr (v : Byte) (s : Spi) : Spi :=
  let s := s.touchSpdr
  if s.left ≠ 0 then { s with spsr := s.spsr ||| 0x40 }
  else { s with shift := v, left := if s.on && s.master then s.exchangeTime else 0 }

/-- A write of SPCR: clears MODF as seen (10 R69); an exchange does not survive the loss of SPE or MSTR
(assumption log 25). DESIGN CHOICE (assumption log 25): one that goes on keeps the cycles counted when SPDR
was written, also where SPR changes, of which the spec says nothing. -/
def Spi.writeSpcr (v : Byte) (s : Spi) : Spi :=
  { s with
    spcr := v
    spsr := s.spsr &&& ~~~(s.readMask &&& 0x10)
    readMask := s.readMask &&& 0xEF
    left := if bit v 6 && bit v 4 then s.left else 0 }

end Sys2Proof.Machine
end

