-- ==== Sys2Proof/Machine/Ports.lean ====
section
/-! DEFINITION.
The port pins (10_state R42 to R49, 60_exceptions R490): what a port register reads, and what the chip
drives on each pin.
-/

namespace Sys2Proof.Machine

/-- TCTL1's pair OMx:OLx for x = 2 to 5 (10 R60). -/
def Timer.omol (t : Timer) (x : Nat) : Nat := t.tctl1.toNat / 4 ^ (5 - x) % 4

/-- TI4/O5 is the output compare 5 register (10 R59, R66). -/
def Timer.oc5 (t : Timer) : Bool := !bit t.pactl 2

/-- The port A pins that OC2 to OC5 are connected to (10 R60). -/
def Timer.ocConnected (t : Timer) : Byte :=
  bitAt 6 (t.omol 2 != 0) ||| bitAt 5 (t.omol 3 != 0) ||| bitAt 4 (t.omol 4 != 0) |||
    bitAt 3 (t.oc5 && t.omol 5 != 0)

/-- The port A pins that are outputs: by DDRA, and PA6 to PA4 whenever their OMx:OLx is not 00
(10 R43, 60 R471). -/
def portAOutputs (s : State) : Byte := s.ports.ddra ||| (s.timer.ocConnected &&& 0x70)

/-- The level port A drives where it is an output: the compare level on a pin the timer is connected to,
else the latch (10 R42, 60 R471). DESIGN CHOICE (assumption log 21): from the moment the timer is connected
(OMx:OLx not 00, or the OC1M bit set) the pin shows the compare level `ocOut`, not the latch, also before
the first compare, and a toggle inverts that level. -/
def portALevel (s : State) : Byte :=
  blend (s.timer.oc1m ||| s.timer.ocConnected) s.timer.ocOut s.ports.a

/-- What reading PORTA gives (10 R42). -/
def portA (s : State) : Byte := blend (portAOutputs s) (portALevel s) s.env.pins.pa

/-- What a port with a direction register reads: latch where output, pin where input (60 R490). -/
def portRead (ddr latch pins : Byte) : Byte := blend ddr latch pins

/-- The ports. -/
inductive PortName where
  | a | b | c | d | e | f | g
deriving DecidableEq, Repr

/-- The pins a port drives, and to what level (60 R490): latch or compare level where output, not at all
where input, where a wired-OR port would drive 1, or where the pin carries the external bus. -/
def pinOut (s : State) (p : PortName) (k : Nat) : Option Bool :=
  let out (ddr level : Byte) (openDrain : Bool) : Option Bool :=
    if bit ddr k && !(openDrain && bit level k) then some (bit level k) else none
  match p with
  | .a => out (portAOutputs s) (portALevel s) false
  | .b => if s.mda then none else out 0xFF s.ports.b false
  | .f => if s.mda then none else out 0xFF s.ports.f false
  | .c => if s.mda then none else out s.ports.ddrc s.ports.c (bit s.sys.opt2 6)
  | .d => out s.ports.ddrd s.ports.d (bit s.spi.spcr 5 && decide (2 ≤ k))
  | .e => none
  | .g => if s.mda && decide (k = 7) then none else out s.ports.ddrg s.ports.g (bit s.sys.opt2 7)

end Sys2Proof.Machine
end

