-- ==== Sys2Proof/Machine/TimerUnit.lean ====
section
/-! DEFINITION.
The main timer, real-time interrupt and pulse accumulator (60_exceptions R470 to R477).
-/

namespace Sys2Proof.Machine

/-- The prescaler of TMSK2.PR: 1, 4, 8 or 16 (10 R64, 60 R470). -/
def Timer.prescale (t : Timer) : Nat :=
  match t.tmsk2.toNat % 4 with
  | 0 => 1
  | 1 => 4
  | 2 => 8
  | _ => 16

/-- The pin action of OCx, x = 2 to 5, on its port A pin 8 - x: none, toggle, clear, set (10 R60,
60 R471). -/
def Timer.ocAction (x : Nat) (t : Timer) : Timer :=
  let k := 8 - x
  match t.omol x with
  | 0 => t
  | 1 => { t with ocOut := setBit t.ocOut k (!bit t.ocOut k) }
  | 2 => { t with ocOut := setBit t.ocOut k false }
  | _ => { t with ocOut := setBit t.ocOut k true }

/-- The pin action of OC1: each pin of OC1M takes its bit of OC1D (10 R55, 60 R471). -/
def Timer.oc1Action (t : Timer) : Timer := { t with ocOut := blend t.oc1m t.oc1d t.ocOut }

/-- Set flags of TFLG1. -/
def Timer.flag1 (mask : Byte) (t : Timer) : Timer := { t with tflg1 := t.tflg1 ||| mask }

/-- Set flags of TFLG2. -/
def Timer.flag2 (mask : Byte) (t : Timer) : Timer := { t with tflg2 := t.tflg2 ||| mask }

/-- OCx compares: where TCNT equals its register, set its flag and take its action (60 R471). -/
def Timer.ocMatch (x : Nat) (reg : Word) (flag : Byte) (t : Timer) : Timer :=
  if t.tcnt = reg then (t.flag1 flag).ocAction x else t

/-- All compares of one count, OC1 last so that it wins a shared pin (60 R471). -/
def Timer.compares (t : Timer) : Timer :=
  let t := t.ocMatch 2 t.toc2 0x40
  let t := t.ocMatch 3 t.toc3 0x20
  let t := t.ocMatch 4 t.toc4 0x10
  let t := if t.oc5 then t.ocMatch 5 t.ti4o5 0x08 else t
  if t.tcnt = t.toc1 then (t.flag1 0x80).oc1Action else t

/-- TCNT takes its next value: TOF on the wrap to $0000, then the compares (60 R470, R471). -/
def Timer.increment (t : Timer) : Timer :=
  let t := { t with phase := 0, tcnt := t.tcnt + 1 }
  (if t.tcnt = 0 then t.flag2 0x80 else t).compares

/-- One E cycle of the prescaler (60 R470). DESIGN CHOICE (assumption log 22): the spec clears the phase at
reset only, so a write of PR keeps it, and the next cycle counts where the phase has reached the new
divisor. -/
def Timer.count (t : Timer) : Timer :=
  if t.phase + 1 < t.prescale then { t with phase := t.phase + 1 } else t.increment

/-- The real-time interrupt period, 2^13 times 2^RTR E cycles (60 R474). -/
def Timer.rtiPeriod (t : Timer) : Nat := 2 ^ (13 + t.pactl.toNat % 4)

/-- RTIF is set when the free-running divider completes a period (60 R474). -/
def Timer.rti (cycles : Nat) (t : Timer) : Timer :=
  if cycles % t.rtiPeriod = 0 then t.flag2 0x40 else t

/-- PACNT counts once; PAOVF when it wraps (60 R477). -/
def Timer.paCount (t : Timer) : Timer :=
  let t := { t with pacnt := t.pacnt + 1 }
  if t.pacnt = 0 then t.flag2 0x20 else t

/-- One E cycle of the gated pulse accumulator: it counts every 64 cycles at the enabling level of PAI,
high where PEDGE is 0 (60 R477). -/
def Timer.paGate (pai : Bool) (t : Timer) : Timer :=
  if bit t.pactl 6 && bit t.pactl 5 && (pai != bit t.pactl 4) then
    if t.paPhase + 1 < 64 then { t with paPhase := t.paPhase + 1 }
    else ({ t with paPhase := 0 } : Timer).paCount
  else t

/-- An edge that a pair EDGxB:EDGxA selects: bit 0 rising, bit 1 falling (10 R61). -/
def edgeSelected (sel : Nat) (old new : Bool) : Bool :=
  (decide (sel % 2 = 1) && !old && new) || (decide (sel / 2 % 2 = 1) && old && !new)

/-- Input captures on a change of the port A pins: IC1 on PA2, IC2 on PA1, IC3 on PA0, IC4 on PA3 where
TI4/O5 is a capture register (60 R473). -/
def Timer.captures (old new : Byte) (t : Timer) : Timer :=
  let sel := t.tctl2.toNat
  let t := if edgeSelected (sel / 16) (bit old 2) (bit new 2)
    then ({ t with tic1 := t.tcnt } : Timer).flag1 0x04 else t
  let t := if edgeSelected (sel / 4) (bit old 1) (bit new 1)
    then ({ t with tic2 := t.tcnt } : Timer).flag1 0x02 else t
  let t := if edgeSelected sel (bit old 0) (bit new 0)
    then ({ t with tic3 := t.tcnt } : Timer).flag1 0x01 else t
  if !t.oc5 && edgeSelected (sel / 64) (bit old 3) (bit new 3)
    then ({ t with ti4o5 := t.tcnt } : Timer).flag1 0x08 else t

/-- The selected edge of PAI sets PAIF, and counts in event mode: falling where PEDGE is 0, rising where
it is 1 (60 R477). -/
def Timer.paEdge (old new : Bool) (t : Timer) : Timer :=
  if edgeSelected (if bit t.pactl 4 then 1 else 2) old new then
    let t := t.flag2 0x10
    if bit t.pactl 6 && !bit t.pactl 5 then t.paCount else t
  else t

/-- A write to CFORC: the forced actions, OC1 last, no flag (10 R53, 60 R471). -/
def Timer.force (v : Byte) (t : Timer) : Timer :=
  let t := if bit v 6 then t.ocAction 2 else t
  let t := if bit v 5 then t.ocAction 3 else t
  let t := if bit v 4 then t.ocAction 4 else t
  let t := if bit v 3 && t.oc5 then t.ocAction 5 else t
  if bit v 7 then t.oc1Action else t

/-- One E cycle of timer, real-time interrupt and pulse accumulator; `cycles` counts this cycle. -/
def Timer.tick (cycles : Nat) (pai : Bool) (t : Timer) : Timer :=
  (t.count.rti cycles).paGate pai

end Sys2Proof.Machine
end

