-- ==== Sys2Proof/Machine/Registers.lean ====
section
/-! DEFINITION.
The 128-byte register block (10_state R40 to R94): what each offset reads, which reads have effects, and
what a write does. Offsets are those of 10 R40.
-/

namespace Sys2Proof.Machine

/-! ### Reads -/

/-- What a register shows, with the bits whose value the spec leaves open as a mask (10 R40 to R93). The
port registers whose pins carry the external bus, TEST1, COPRST and the reserved offsets are open
(assumption log 19), and so are the results of a converter that is powered down (60 R488, log 26). -/
def regValue (s : State) (off : Nat) : Byte × Byte :=
  match off with
  | 0x00 => (portA s, 0)
  | 0x01 => (s.ports.ddra, 0)
  | 0x02 => (portRead s.ports.ddrg s.ports.g s.env.pins.pg, if s.mda then 0x80 else 0)
  | 0x03 => (s.ports.ddrg, 0)
  | 0x04 => (s.ports.b, if s.mda then 0xFF else 0)
  | 0x05 => (s.ports.f, if s.mda then 0xFF else 0)
  | 0x06 => (portRead s.ports.ddrc s.ports.c s.env.pins.pc, if s.mda then 0xFF else 0)
  | 0x07 => (s.ports.ddrc, 0)
  | 0x08 => (portRead s.ports.ddrd s.ports.d s.env.pins.pd &&& 0x3F, 0)
  | 0x09 => (s.ports.ddrd, 0)
  | 0x0A => (s.env.pins.pe, 0)
  | 0x0B => (0, 0)
  | 0x0C => (s.timer.oc1m, 0)
  | 0x0D => (s.timer.oc1d, 0)
  | 0x0E => (hi8 s.timer.tcnt, 0)
  | 0x0F => (lo8 s.timer.tcnt, 0)
  | 0x10 => (hi8 s.timer.tic1, 0)
  | 0x11 => (lo8 s.timer.tic1, 0)
  | 0x12 => (hi8 s.timer.tic2, 0)
  | 0x13 => (lo8 s.timer.tic2, 0)
  | 0x14 => (hi8 s.timer.tic3, 0)
  | 0x15 => (lo8 s.timer.tic3, 0)
  | 0x16 => (hi8 s.timer.toc1, 0)
  | 0x17 => (lo8 s.timer.toc1, 0)
  | 0x18 => (hi8 s.timer.toc2, 0)
  | 0x19 => (lo8 s.timer.toc2, 0)
  | 0x1A => (hi8 s.timer.toc3, 0)
  | 0x1B => (lo8 s.timer.toc3, 0)
  | 0x1C => (hi8 s.timer.toc4, 0)
  | 0x1D => (lo8 s.timer.toc4, 0)
  | 0x1E => (hi8 s.timer.ti4o5, 0)
  | 0x1F => (lo8 s.timer.ti4o5, 0)
  | 0x20 => (s.timer.tctl1, 0)
  | 0x21 => (s.timer.tctl2, 0)
  | 0x22 => (s.timer.tmsk1, 0)
  | 0x23 => (s.timer.tflg1, 0)
  | 0x24 => (s.timer.tmsk2, 0)
  | 0x25 => (s.timer.tflg2, 0)
  | 0x26 => (s.timer.pactl, 0)
  | 0x27 => (s.timer.pacnt, 0)
  | 0x28 => (s.spi.spcr, 0)
  | 0x29 => (s.spi.spsr, 0)
  | 0x2A => (s.spi.rdBuf, 0)
  | 0x2B => (s.sci.baud, 0)
  | 0x2C => (s.sci.sccr1, 0)
  | 0x2D => (s.sci.sccr2, 0)
  | 0x2E => (s.sci.scsr, 0)
  | 0x2F => (s.sci.rdr, 0)
  | 0x30 => (s.adc.adctl, 0)
  | 0x31 => (s.adc.adr1, if s.adcOn then 0 else 0xFF)
  | 0x32 => (s.adc.adr2, if s.adcOn then 0 else 0xFF)
  | 0x33 => (s.adc.adr3, if s.adcOn then 0 else 0xFF)
  | 0x34 => (s.adc.adr4, if s.adcOn then 0 else 0xFF)
  | 0x35 => (s.ee.bprot, 0)
  | 0x38 => (s.sys.opt2, 0)
  | 0x39 => (s.sys.option, 0)
  | 0x3B => (s.ee.pprog, 0)
  | 0x3C => (s.sys.hprio, 0)
  | 0x3D => (s.sys.init, 0)
  | 0x3F => (s.sys.config, 0)
  | 0x5C => (s.sys.csstrh, 0)
  | 0x5D => (s.sys.csctl, 0)
  | 0x5E => (s.sys.csgadr, 0)
  | 0x5F => (s.sys.csgsiz, 0)
  | _ => (0, 0xFF)

/-- The side effect of a read (20 R150): SPSR and SCSR arm the clearing of the flags seen, SPDR and SCDR
complete it. -/
def regReadEffect (s : State) (off : Nat) : State :=
  match off with
  | 0x29 => { s with spi := s.spi.readSpsr }
  | 0x2A => { s with spi := s.spi.touchSpdr }
  | 0x2E => { s with sci := s.sci.readScsr }
  | 0x2F => { s with sci := s.sci.readScdr }
  | _ => s

/-- Read a register: its value, its open bits from a free value, and its side effect. -/
def readReg (off : Nat) (s : State) : Byte × State :=
  let r := regValue s off
  if r.2 = 0 then (r.1, regReadEffect s off)
  else (blend r.2 (drawByte s).1 r.1, (drawByte s).2)

/-! ### Protected writes -/

/-- The write of this instruction falls in the first 64 cycles: its bus cycle is the last one counted
(70 R530; assumption log 10). -/
def inWindow (s : State) : Bool := decide (s.cycles + s.owed - 1 < 64 + Config.tProtectStart)

/-- A write-once field may be written: any time in a special mode, else by the first write, in the window
(10 R94). -/
def mayWrite (s : State) (written : Bool) : Bool := s.smod || (!written && inWindow s)

/-- INIT (10 R85). -/
def writeInit (v : Byte) (s : State) : State :=
  { s with sys := { s.sys with
      init := if mayWrite s s.sys.wroteInit then v else s.sys.init
      wroteInit := true } }

/-- OPTION: ADPU, CSEL and CME always; IRQE, DLY, FCME and CR once; FCME, once set, forces the clock
monitor until reset (10 R81, R94). -/
def writeOption (v : Byte) (s : State) : State :=
  let new := if mayWrite s s.sys.wroteOption then v else blend 0xC8 v s.sys.option
  { s with sys := { s.sys with
      option := new
      wroteOption := true
      forcedCm := s.sys.forcedCm || bit new 2 } }

/-- TMSK2: the enables always, PR once; bits 3 and 2 read zero (10 R64, R94). -/
def writeTmsk2 (v : Byte) (s : State) : State :=
  let pr := if mayWrite s s.sys.wroteTmsk2 then v else s.timer.tmsk2
  { s with
    timer := { s.timer with tmsk2 := blend 0xF0 v (pr &&& 0x03) }
    sys := { s.sys with wroteTmsk2 := true } }

/-- BPROT: bits may be set at any time, cleared once in the window (10 R78, R94). -/
def writeBprot (v : Byte) (s : State) : State :=
  let new := if mayWrite s s.sys.wroteBprot then v else s.ee.bprot ||| v
  { s with
    ee := { s.ee with bprot := new &&& 0x1F }
    sys := { s.sys with wroteBprot := true } }

/-- OPT2: GWOM and CWOM always, CLK4X once in a normal mode, with no window; bits 4 to 0 read 0
(10 R80, R94). -/
def writeOpt2 (v : Byte) (s : State) : State :=
  let new := if s.smod || !s.sys.wroteClk4x then v else blend 0xC0 v s.sys.opt2
  { s with sys := { s.sys with opt2 := new &&& 0xE0, wroteClk4x := true } }

/-- HPRIO: RBOOT, SMOD and MDA at any time in a special mode, RBOOT held 0 outside one; in a normal mode
only MDA, by the first write; IRV always; PSEL while I = 1 (10 R84, R94, 60 R433). -/
def writeHprio (v : Byte) (s : State) : State :=
  let old := s.sys.hprio
  let mode :=
    if s.smod then (if bit v 6 then v else v &&& 0x7F)
    else if s.sys.wroteMda then old else blend 0x20 v old
  let psel := if s.ccr.i then v else old
  { s with sys := { s.sys with
      hprio := (mode &&& 0xE0) ||| (v &&& 0x10) ||| (psel &&& 0x0F)
      wroteMda := s.sys.wroteMda || !s.smod } }

/-- CONFIG: in a special mode the latch is written directly; with EELAT = 1 the write goes to the EEPROM
latches (10 R87, 60 R496). -/
def writeConfig (v : Byte) (s : State) : State :=
  let s := latchWrite .config v s
  if s.smod then { s with sys := { s.sys with config := v ||| 0x0A } } else s

/-- COPRST: $55 arms, $AA completes the service of an armed watchdog, anything else changes nothing
(10 R82, 60 R475). -/
def writeCoprst (v : Byte) (s : State) : State :=
  if v = 0x55 then { s with cop := { s.cop with armed := true } }
  else if v = 0xAA ∧ s.cop.armed = true then { s with cop := { armed := false, count := 0 } }
  else s

/-! ### Writes -/

/-- A write to the timer's registers, offsets $0B to $27 (10 R53 to R67); none where the offset is not one
of them or cannot be written. DESIGN CHOICE (assumption log 23): a write of PACNT, and one of PACTL, keeps the
phase of the divider by 64 that the gated mode counts with, of which the spec says nothing; and a write of $00 to
a PACNT that holds $FF is no overflow: PAOVF is set by counting only, although 10 R65 says "changes from $FF to
$00" without saying by what. -/
def Timer.write (off : Nat) (v : Byte) (t : Timer) : Option Timer :=
  match off with
  | 0x0B => some (t.force v)
  | 0x0C => some { t with oc1m := v &&& 0xF8 }
  | 0x0D => some { t with oc1d := v &&& 0xF8 }
  | 0x16 => some { t with toc1 := mk16 v (lo8 t.toc1) }
  | 0x17 => some { t with toc1 := mk16 (hi8 t.toc1) v }
  | 0x18 => some { t with toc2 := mk16 v (lo8 t.toc2) }
  | 0x19 => some { t with toc2 := mk16 (hi8 t.toc2) v }
  | 0x1A => some { t with toc3 := mk16 v (lo8 t.toc3) }
  | 0x1B => some { t with toc3 := mk16 (hi8 t.toc3) v }
  | 0x1C => some { t with toc4 := mk16 v (lo8 t.toc4) }
  | 0x1D => some { t with toc4 := mk16 (hi8 t.toc4) v }
  | 0x1E => some { t with ti4o5 := mk16 v (lo8 t.ti4o5) }
  | 0x1F => some { t with ti4o5 := mk16 (hi8 t.ti4o5) v }
  | 0x20 => some { t with tctl1 := v }
  | 0x21 => some { t with tctl2 := v }
  | 0x22 => some { t with tmsk1 := v }
  | 0x23 => some { t with tflg1 := t.tflg1 &&& ~~~v }
  | 0x25 => some { t with tflg2 := t.tflg2 &&& ~~~v }
  | 0x26 => some { t with pactl := v &&& 0x77 }
  | 0x27 => some { t with pacnt := v }
  | _ => none

/-- A write to the port latches and direction registers (10 R42 to R49). -/
def Ports.write (off : Nat) (v : Byte) (p : Ports) : Option Ports :=
  match off with
  | 0x00 => some { p with a := v }
  | 0x01 => some { p with ddra := v }
  | 0x02 => some { p with g := v }
  | 0x03 => some { p with ddrg := v }
  | 0x04 => some { p with b := v }
  | 0x05 => some { p with f := v }
  | 0x06 => some { p with c := v }
  | 0x07 => some { p with ddrc := v }
  | 0x08 => some { p with d := v &&& 0x3F }
  | 0x09 => some { p with ddrd := v &&& 0x3F }
  | _ => none

/-- A write to the other registers (10 R64, R68 to R92); offsets that are read-only, reserved or test-only
ignore it (10 R41, R79, R86, R88, R93), and TCNT in every mode (10 R56, 92 D13). -/
def writeControl (off : Nat) (v : Byte) (s : State) : State :=
  match off with
  | 0x24 => writeTmsk2 v s
  | 0x28 => { s with spi := s.spi.writeSpcr v }
  | 0x2A => { s with spi := s.spi.writeSpdr v }
  | 0x2B => { s with sci := { s.sci with baud := v &&& 0x37 } }
  | 0x2C => { s with sci := { s.sci with sccr1 := v &&& 0xD8 } }
  | 0x2D => { s with sci := s.sci.writeSccr2 v }
  | 0x2F => { s with sci := s.sci.writeScdr v }
  | 0x30 => { s with adc := s.adc.writeAdctl s.adcOn v }
  | 0x35 => writeBprot v s
  | 0x38 => writeOpt2 v s
  | 0x39 => writeOption v s
  | 0x3A => writeCoprst v s
  | 0x3B => writePprog v s
  | 0x3C => writeHprio v s
  | 0x3D => writeInit v s
  | 0x3F => writeConfig v s
  | 0x5C => { s with sys := { s.sys with csstrh := v } }
  | 0x5D => { s with sys := { s.sys with csctl := v } }
  | 0x5E => { s with sys := { s.sys with csgadr := v &&& 0xFC } }
  | 0x5F => { s with sys := { s.sys with csgsiz := v &&& 0xDF } }
  | _ => s

/-- Write a register of the block. -/
def writeReg (off : Nat) (v : Byte) (s : State) : State :=
  match s.ports.write off v with
  | some p => { s with ports := p }
  | none =>
    match s.timer.write off v with
    | some t => { s with timer := t }
    | none => writeControl off v s

end Sys2Proof.Machine
end

