-- ==== Sys2Proof/Machine/Ops.lean ====
section
/-! DEFINITION.
The named operations over memory and registers (00_scope R13 to R17), taking an exception (60_exceptions
R440) and returning from one (60 R445, 45 R407).
-/

namespace Sys2Proof.Machine

/-- How an instruction ends; it never stops the machine. -/
abbrev Result := Host.Outcome State Fault Refusal

/-! ### Memory -/

/-- A byte of an array whose value the state does not list: the RAM's and the bootstrap ROM's are fixed
free values, external memory answers a fresh one (assumption logs 5, 6, 7). -/
def openByte (r : Region) (off : Nat) (s : State) : Byte × State :=
  match r with
  | .ram => (Config.ramInit s.ramEpoch off, s)
  | .boot => (Config.bootRom off, s)
  | _ => drawByte s

/-- Read a byte of an array; the EEPROM is not readable while EELAT = 1 (20 R144). -/
def readArray (r : Region) (off : Nat) (s : State) : Byte × State :=
  if r = .eeprom ∧ s.eelat = true then drawByte s
  else
    match s.mem.get r off with
    | some v => (v, s)
    | none => openByte r off s

/-- `MemRead(a, 1)`: the byte at an address, with the read's side effect (00 R13, 20 R141). -/
def readByte (a : Word) (s : State) : Byte × State :=
  match resolve s a with
  | .reg off => readReg off s
  | .mem .ext off => readArray .ext off (busCycle a s)
  | .mem r off => readArray r off s
  | .nothing => drawByte (busCycle a s)

/-- Write a byte of an array: the RAM and external memory store it, the bootstrap ROM ignores it, the
EEPROM latches it while EELAT = 1 and else ignores it (20 R142 to R147). -/
def writeArray (r : Region) (off : Nat) (v : Byte) (s : State) : State :=
  match r with
  | .ram | .ext => { s with mem := s.mem.put r off v }
  | .eeprom => latchWrite (.array off) v s
  | .boot => s

/-- `MemWrite(a, 1, v)` (00 R13, 20 R141). -/
def writeByte (a : Word) (v : Byte) (s : State) : State :=
  match resolve s a with
  | .reg off => writeReg off v s
  | .mem .ext off => writeArray .ext off v (busCycle a s)
  | .mem r off => writeArray r off v s
  | .nothing => busCycle a s

/-- `MemRead(a, 2)`: the high byte at `a`, then the low byte at `a + 1`; TCNT is read as one coherent
count (00 R13, 20 R150, 60 R470). -/
def read16 (a : Word) (s : State) : Word × State :=
  if resolve s a = .reg 0x0E then (s.tcnt16, s)
  else
    let h := readByte a s
    let l := readByte (a + 1) h.2
    (mk16 h.1 l.1, l.2)

/-- `MemWrite(a, 2, v)`: the high byte to `a`, then the low byte to `a + 1` (00 R13, 20 R150). -/
def write16 (a v : Word) (s : State) : State := writeByte (a + 1) (lo8 v) (writeByte a (hi8 v) s)

/-! ### The stack (00 R15) -/

/-- `Push8`. -/
def push8 (v : Byte) (s : State) : State :=
  let s := writeByte s.sp v s
  { s with sp := s.sp - 1 }

/-- `Push16`: the low byte first. -/
def push16 (v : Word) (s : State) : State := push8 (hi8 v) (push8 (lo8 v) s)

/-- `Pull8`. -/
def pull8 (s : State) : Byte × State := readByte (s.sp + 1) { s with sp := s.sp + 1 }

/-- `Pull16`: the high byte first. -/
def pull16 (s : State) : Word × State :=
  let h := pull8 s
  let l := pull8 h.2
  (mk16 h.1 l.1, l.2)

/-! ### Registers -/

/-- The accumulators. -/
inductive Acc where
  | a | b
deriving DecidableEq, Repr

/-- The value of an accumulator. -/
def Acc.get (s : State) : Acc → Byte
  | .a => s.a
  | .b => s.b

/-- Write an accumulator. -/
def Acc.set (v : Byte) (s : State) : Acc → State
  | .a => { s with a := v }
  | .b => { s with b := v }

/-- The 16-bit registers; D is A:B (10 R21). -/
inductive Reg16 where
  | d | x | y | sp
deriving DecidableEq, Repr

/-- The value of a 16-bit register. -/
def Reg16.get (s : State) : Reg16 → Word
  | .d => mk16 s.a s.b
  | .x => s.ix
  | .y => s.iy
  | .sp => s.sp

/-- Write a 16-bit register. -/
def Reg16.set (v : Word) (s : State) : Reg16 → State
  | .d => { s with a := hi8 v, b := lo8 v }
  | .x => { s with ix := v }
  | .y => { s with iy := v }
  | .sp => { s with sp := v }

/-- CCR as a byte, S in bit 7 to C in bit 0 (10 R25). -/
def Ccr.toByte (c : Ccr) : Byte :=
  bitAt 7 c.s ||| bitAt 6 c.x ||| bitAt 5 c.h ||| bitAt 4 c.i |||
    bitAt 3 c.n ||| bitAt 2 c.z ||| bitAt 1 c.v ||| bitAt 0 c.c

/-- CCR from a byte (10 R25). -/
def Ccr.ofByte (b : Byte) : Ccr :=
  { s := bit b 7, x := bit b 6, h := bit b 5, i := bit b 4,
    n := bit b 3, z := bit b 2, v := bit b 1, c := bit b 0 }

/-- Load CCR from a byte as TAP and RTI do: X may be cleared, it cannot become set (10 R27). -/
def Ccr.load (old : Ccr) (b : Byte) : Ccr := { Ccr.ofByte b with x := old.x && bit b 6 }

/-! ### Exceptions -/

/-- Where a vector is read: in a special mode $4000 lower (60 R421, 20 R146). -/
def vectorAddr (s : State) (v : Word) : Word := if s.smod then v - 0x4000 else v

/-- The nine bytes of the frame: PC, IY, IX, A, B, CCR (60 R440, R441). -/
def stackRegisters (s : State) : State :=
  let s := push16 s.pc s
  let s := push16 s.iy s
  let s := push16 s.ix s
  let s := push8 s.a s
  let s := push8 s.b s
  push8 s.ccr.toByte s

/-- Set I, and X on an XIRQ entry, and load PC from a vector (60 R440). -/
def vectorTo (vector : Word) (setX : Bool) (s : State) : State :=
  let s := { s with ccr := { s.ccr with i := true, x := s.ccr.x || setX } }
  let r := read16 (vectorAddr s vector) s
  { r.2 with pc := r.1 }

/-- TAKING AN EXCEPTION, `Enter(vector, set_X)`: the one entry of every interrupt, of SWI and of the
illegal opcode trap; the return address is in `pc` (60 R440, R442). -/
def enter (vector : Word) (setX : Bool) (s : State) : State := vectorTo vector setX (stackRegisters s)

/-- The vector of the software interrupt (60 R421). -/
def swiVector : Word := 0xFFF6

/-- The vector of the illegal opcode trap (60 R421). -/
def illegalVector : Word := 0xFFF8

/-- The illegal opcode trap, with the address of the offending instruction as return address (00 R17,
60 R424). -/
def illegalTrap (start : Word) (s : State) : State := enter illegalVector false { s with pc := start }

/-- RETURNING FROM AN EXCEPTION: pull CCR, B, A, IX, IY and PC (45 R407, 60 R445). -/
def unstackRegisters (s : State) : State :=
  let c := pull8 s
  let s := { c.2 with ccr := c.2.ccr.load c.1 }
  let b := pull8 s
  let s := { b.2 with b := b.1 }
  let a := pull8 s
  let s := { a.2 with a := a.1 }
  let x := pull16 s
  let s := { x.2 with ix := x.1 }
  let y := pull16 s
  let s := { y.2 with iy := y.1 }
  let p := pull16 s
  { p.2 with pc := p.1 }

end Sys2Proof.Machine
end

