-- ==== Sys2Proof/Machine/Flags.lean ====
section
/-! DEFINITION.
Every flag computation of the spec: N and Z (00_scope R16), the adders and subtractors (41 R250 to R253),
increments, negation, decimal adjust (41 R275 to R293), logic (42 R310), shifts and rotates (43 R330).
Each takes the operands and the old CCR and returns the result and the new CCR.
-/

namespace Sys2Proof.Machine

/-- `NZ8` (00 R16). -/
def Ccr.nz8 (c : Ccr) (r : Byte) : Ccr := { c with n := r.msb, z := r == 0 }

/-- `NZ16` (00 R16). -/
def Ccr.nz16 (c : Ccr) (r : Word) : Ccr := { c with n := r.msb, z := r == 0 }

/-- N and Z from an 8-bit value, V cleared, C kept: loads, stores, transfers and logic (40 R200,
42 R310). -/
def Ccr.logic8 (c : Ccr) (r : Byte) : Ccr := { c.nz8 r with v := false }

/-- N and Z from a 16-bit value, V cleared, C kept (40 R200). -/
def Ccr.logic16 (c : Ccr) (r : Word) : Ccr := { c.nz16 r with v := false }

/-- `ADD8` (41 R250): the nine-bit sum gives the carry, the four-bit sum the half carry. -/
def add8 (a m : Byte) (cin : Bool) (c : Ccr) : Byte × Ccr :=
  let s := a.setWidth 9 + m.setWidth 9 + (BitVec.ofBool cin).setWidth 9
  let r := s.setWidth 8
  (r, { c.nz8 r with
        h := decide (0xF < a.toNat % 16 + m.toNat % 16 + cin.toNat)
        v := (a.msb && m.msb && !r.msb) || (!a.msb && !m.msb && r.msb)
        c := s.msb })

/-- `SUB8` (41 R251): the ninth bit of the difference is the borrow; H is kept. -/
def sub8 (a m : Byte) (bin : Bool) (c : Ccr) : Byte × Ccr :=
  let d := a.setWidth 9 - m.setWidth 9 - (BitVec.ofBool bin).setWidth 9
  let r := d.setWidth 8
  (r, { c.nz8 r with
        v := (a.msb && !m.msb && !r.msb) || (!a.msb && m.msb && r.msb)
        c := d.msb })

/-- `ADD16` (41 R252). -/
def add16 (a m : Word) (c : Ccr) : Word × Ccr :=
  let s := a.setWidth 17 + m.setWidth 17
  let r := s.setWidth 16
  (r, { c.nz16 r with
        v := (a.msb && m.msb && !r.msb) || (!a.msb && !m.msb && r.msb)
        c := s.msb })

/-- `SUB16` (41 R253). -/
def sub16 (a m : Word) (c : Ccr) : Word × Ccr :=
  let d := a.setWidth 17 - m.setWidth 17
  let r := d.setWidth 16
  (r, { c.nz16 r with
        v := (a.msb && !m.msb && !r.msb) || (!a.msb && m.msb && r.msb)
        c := d.msb })

/-- Increment: V exactly when the operand is $7F, C kept (41 R282). -/
def inc8 (m : Byte) (c : Ccr) : Byte × Ccr := (m + 1, { c.nz8 (m + 1) with v := m == 0x7F })

/-- Decrement: V exactly when the operand is $80, C kept (41 R276). -/
def dec8 (m : Byte) (c : Ccr) : Byte × Ccr := (m - 1, { c.nz8 (m - 1) with v := m == 0x80 })

/-- Negate: V exactly when the result is $80, C exactly when it is not 0 (41 R288). -/
def neg8 (m : Byte) (c : Ccr) : Byte × Ccr :=
  let r := 0 - m
  (r, { c.nz8 r with v := r == 0x80, c := r != 0 })

/-- Complement: V cleared, C set (42 R319). -/
def com8 (m : Byte) (c : Ccr) : Byte × Ccr := (~~~m, { c.logic8 (~~~m) with c := true })

/-- Test: the value unchanged, V and C cleared (41 R291). -/
def tst8 (m : Byte) (c : Ccr) : Byte × Ccr := (m, { c.logic8 m with c := false })

/-- Clear: N 0, Z 1, V 0, C 0 (40 R231). -/
def clr8 (_m : Byte) (c : Ccr) : Byte × Ccr :=
  (0, { c with n := false, z := true, v := false, c := false })

/-- The flags of every shift and rotate: N and Z of the result, the bit shifted out in C, V = N xor C
(43 R330). -/
def shifted8 (r : Byte) (out : Bool) (c : Ccr) : Byte × Ccr :=
  (r, { c.nz8 r with v := r.msb ^^ out, c := out })

/-- The 16-bit version of `shifted8` (43 R330). -/
def shifted16 (r : Word) (out : Bool) (c : Ccr) : Word × Ccr :=
  (r, { c.nz16 r with v := r.msb ^^ out, c := out })

/-- `ASL8` (43 R330). -/
def asl8 (m : Byte) (c : Ccr) : Byte × Ccr := shifted8 (m <<< 1) m.msb c

/-- `ASR8` (43 R330). -/
def asr8 (m : Byte) (c : Ccr) : Byte × Ccr := shifted8 (m.sshiftRight 1) (bit m 0) c

/-- `LSR8` (43 R330). -/
def lsr8 (m : Byte) (c : Ccr) : Byte × Ccr := shifted8 (m >>> 1) (bit m 0) c

/-- `ROL8` (43 R330): the old C enters bit 0. -/
def rol8 (m : Byte) (c : Ccr) : Byte × Ccr := shifted8 ((m <<< 1) ||| bitAt 0 c.c) m.msb c

/-- `ROR8` (43 R330): the old C enters bit 7. -/
def ror8 (m : Byte) (c : Ccr) : Byte × Ccr := shifted8 ((m >>> 1) ||| bitAt 7 c.c) (bit m 0) c

/-- `ASL16` (43 R330). -/
def asl16 (d : Word) (c : Ccr) : Word × Ccr := shifted16 (d <<< 1) d.msb c

/-- `LSR16` (43 R330). -/
def lsr16 (d : Word) (c : Ccr) : Word × Ccr := shifted16 (d >>> 1) (d.getLsbD 0) c

/-- The correction DAA adds: $06 for the low digit, $60 for the high one (41 R275). -/
def daaCorrection (a : Byte) (c : Ccr) : Byte :=
  let lo := a.toNat % 16
  let hi := a.toNat / 16
  (if c.h = true ∨ 9 < lo then 0x06 else 0) +
    (if c.c = true ∨ 9 < hi ∨ (hi = 9 ∧ 9 < lo) then 0x60 else 0)

/-- DAA: add the correction; C is set by the $60 correction and never cleared; V is the free bit `v`
(41 R275, assumption log 18). -/
def daa8 (v : Bool) (a : Byte) (c : Ccr) : Byte × Ccr :=
  let corr := daaCorrection a c
  let r := a + corr
  (r, { c.nz8 r with v := v, c := c.c || decide (0x60 ≤ corr.toNat) })

end Sys2Proof.Machine
end

