-- ==== Sys2Proof/Syntax.lean ====
section
/-! DEFINITION.
The syntax of the machine's 139 operations (30_encoding R170): one constructor for each mnemonic of
`spec/opcode_table.json`, its operands the whole bytes the encoding carries (30 R174).
The alternative names LSL, LSLA, LSLB, LSLD, BHS, BLO (30 R188) are spellings of `asl`, `asla`, `aslb`,
`asld`, `bcc`, `bcs`.
-/

namespace Sys2Proof

/-- A memory operand: direct, extended, indexed by X, indexed by Y (30 R177 to R180). -/
inductive MemOp where
  /-- DIR, `dd` (30 R177). -/
  | dir (dd : Byte)
  /-- EXT, `hh ll` (30 R178). -/
  | ext (hhll : Word)
  /-- IND,X, `ff` (30 R179). -/
  | indX (ff : Byte)
  /-- IND,Y, `ff` (30 R180). -/
  | indY (ff : Byte)
deriving DecidableEq, Repr

/-- An 8-bit source operand: immediate (30 R176) or memory. -/
inductive Src8 where
  | imm (ii : Byte)
  | mem (m : MemOp)
deriving DecidableEq, Repr

/-- A 16-bit source operand: immediate `jj kk` (30 R176) or memory. -/
inductive Src16 where
  | imm (jjkk : Word)
  | mem (m : MemOp)
deriving DecidableEq, Repr

/-- The instructions. -/
inductive Instr where
  -- Loads, stores, transfers, exchanges, stack and clears (40)
  | ldaa (src : Src8)
  | ldab (src : Src8)
  | ldd (src : Src16)
  | lds (src : Src16)
  | ldx (src : Src16)
  | ldy (src : Src16)
  | staa (dst : MemOp)
  | stab (dst : MemOp)
  | std (dst : MemOp)
  | sts (dst : MemOp)
  | stx (dst : MemOp)
  | sty (dst : MemOp)
  | tap
  | tpa
  | tab
  | tba
  | tsx
  | tsy
  | txs
  | tys
  | xgdx
  | xgdy
  | psha
  | pshb
  | pshx
  | pshy
  | pula
  | pulb
  | pulx
  | puly
  | clr (dst : MemOp)
  | clra
  | clrb
  -- Arithmetic (41)
  | aba
  | abx
  | aby
  | adca (src : Src8)
  | adcb (src : Src8)
  | adda (src : Src8)
  | addb (src : Src8)
  | addd (src : Src16)
  | sba
  | sbca (src : Src8)
  | sbcb (src : Src8)
  | suba (src : Src8)
  | subb (src : Src8)
  | subd (src : Src16)
  | cba
  | cmpa (src : Src8)
  | cmpb (src : Src8)
  | cpd (src : Src16)
  | cpx (src : Src16)
  | cpy (src : Src16)
  | daa
  | dec (dst : MemOp)
  | deca
  | decb
  | des
  | dex
  | dey
  | inc (dst : MemOp)
  | inca
  | incb
  | ins
  | inx
  | iny
  | neg (dst : MemOp)
  | nega
  | negb
  | tst (dst : MemOp)
  | tsta
  | tstb
  | mul
  | idiv
  | fdiv
  -- Logic and bits (42)
  | anda (src : Src8)
  | andb (src : Src8)
  | bita (src : Src8)
  | bitb (src : Src8)
  | eora (src : Src8)
  | eorb (src : Src8)
  | oraa (src : Src8)
  | orab (src : Src8)
  | com (dst : MemOp)
  | coma
  | comb
  | bset (dst : MemOp) (mm : Byte)
  | bclr (dst : MemOp) (mm : Byte)
  -- Shifts and rotates (43)
  | asl (dst : MemOp)
  | asla
  | aslb
  | asld
  | asr (dst : MemOp)
  | asra
  | asrb
  | lsr (dst : MemOp)
  | lsra
  | lsrb
  | lsrd
  | rol (dst : MemOp)
  | rola
  | rolb
  | ror (dst : MemOp)
  | rora
  | rorb
  -- Branches, jumps, calls, returns (44)
  | bra (rr : Byte)
  | brn (rr : Byte)
  | bcc (rr : Byte)
  | bcs (rr : Byte)
  | beq (rr : Byte)
  | bne (rr : Byte)
  | bmi (rr : Byte)
  | bpl (rr : Byte)
  | bvs (rr : Byte)
  | bvc (rr : Byte)
  | bge (rr : Byte)
  | bgt (rr : Byte)
  | ble (rr : Byte)
  | blt (rr : Byte)
  | bhi (rr : Byte)
  | bls (rr : Byte)
  | brset (src : MemOp) (mm rr : Byte)
  | brclr (src : MemOp) (mm rr : Byte)
  | bsr (rr : Byte)
  | jmp (dst : MemOp)
  | jsr (dst : MemOp)
  | rts
  -- Condition codes, interrupts, power (45)
  | clc
  | cli
  | clv
  | sec
  | sei
  | sev
  | nop
  | rti
  | swi
  | wai
  | stop
  | test
deriving DecidableEq, Repr

end Sys2Proof
end

