-- ==== Sys2Proof/Machine/Operands.lean ====
section
/-! DEFINITION.
Every operand form (30_encoding R175 to R182) and the shapes the instructions share: an accumulator or a
16-bit register combined with an operand, a load, a store, a read-modify-write, a conditional branch.
-/

namespace Sys2Proof.Machine

/-- The effective address: DIR `$00 : dd`, EXT `hh : ll`, IND,X and IND,Y the index register plus the
unsigned offset modulo 2^16 (30 R177 to R180). -/
def ea (m : MemOp) (s : State) : Word :=
  match m with
  | .dir dd => zext16 dd
  | .ext a => a
  | .indX ff => s.ix + zext16 ff
  | .indY ff => s.iy + zext16 ff

/-- The 8-bit operand: the immediate byte or the byte at the effective address (30 R176). -/
def operand8 (src : Src8) (s : State) : Byte × State :=
  match src with
  | .imm ii => (ii, s)
  | .mem m => readByte (ea m s) s

/-- The 16-bit operand (30 R176). -/
def operand16 (src : Src16) (s : State) : Word × State :=
  match src with
  | .imm w => (w, s)
  | .mem m => read16 (ea m s) s

/-- `r <- f(r, opr)` with its flags, on an accumulator. -/
def accOp (r : Acc) (f : Byte → Byte → Ccr → Byte × Ccr) (src : Src8) (s : State) : State :=
  let m := operand8 src s
  let x := f (r.get m.2) m.1 m.2.ccr
  r.set x.1 { m.2 with ccr := x.2 }

/-- The flags of `f(r, opr)`, the result discarded. -/
def accTest (r : Acc) (f : Byte → Byte → Ccr → Byte × Ccr) (src : Src8) (s : State) : State :=
  let m := operand8 src s
  { m.2 with ccr := (f (r.get m.2) m.1 m.2.ccr).2 }

/-- `r <- f(r)` with its flags, on an accumulator. -/
def accUnary (r : Acc) (f : Byte → Ccr → Byte × Ccr) (s : State) : State :=
  let x := f (r.get s) s.ccr
  r.set x.1 { s with ccr := x.2 }

/-- `r <- f(r, opr16)` with its flags, on a 16-bit register. -/
def wideOp (r : Reg16) (f : Word → Word → Ccr → Word × Ccr) (src : Src16) (s : State) : State :=
  let m := operand16 src s
  let x := f (r.get m.2) m.1 m.2.ccr
  r.set x.1 { m.2 with ccr := x.2 }

/-- The flags of `f(r, opr16)`, the result discarded. -/
def wideTest (r : Reg16) (f : Word → Word → Ccr → Word × Ccr) (src : Src16) (s : State) : State :=
  let m := operand16 src s
  { m.2 with ccr := (f (r.get m.2) m.1 m.2.ccr).2 }

/-- `D <- f(D)` with its flags. -/
def wideUnary (f : Word → Ccr → Word × Ccr) (s : State) : State :=
  let x := f (Reg16.get s .d) s.ccr
  Reg16.set x.1 { s with ccr := x.2 } .d

/-- Load an 8-bit register (40 R200). -/
def load8 (r : Acc) : Src8 → State → State := accOp r fun _ m c => (m, c.logic8 m)

/-- Load a 16-bit register (40 R200). -/
def load16 (r : Reg16) : Src16 → State → State := wideOp r fun _ m c => (m, c.logic16 m)

/-- Store an accumulator; the flags are those of the value stored (40 R207). -/
def store8 (r : Acc) (dst : MemOp) (s : State) : State :=
  let v := r.get s
  let s := writeByte (ea dst s) v s
  { s with ccr := s.ccr.logic8 v }

/-- Store a 16-bit register; the flags are those of the value stored (40 R209). -/
def store16 (r : Reg16) (dst : MemOp) (s : State) : State :=
  let v := r.get s
  let s := write16 (ea dst s) v s
  { s with ccr := s.ccr.logic16 v }

/-- Read-modify-write of the byte at the effective address, one read then one write (20 R151). -/
def modifyByte (f : Byte → Ccr → Byte × Ccr) (dst : MemOp) (s : State) : State :=
  let a := ea dst s
  let m := readByte a s
  let x := f m.1 m.2.ccr
  let s := writeByte a x.1 m.2
  { s with ccr := x.2 }

/-- The flags of a memory byte, which is read and not written (41 R291). -/
def memTest (f : Byte → Ccr → Byte × Ccr) (src : MemOp) (s : State) : State :=
  let m := readByte (ea src s) s
  { m.2 with ccr := (f m.1 m.2.ccr).2 }

/-- A relative branch, taken where `cond` holds (30 R181, 44 R360). -/
def branchIf (cond : Bool) (rr : Byte) (s : State) : State :=
  if cond then { s with pc := s.pc + sext16 rr } else s

/-- A bit-test branch on the byte at the effective address (44 R377, R378). -/
def bitBranch (test : Byte → Bool) (src : MemOp) (rr : Byte) (s : State) : State :=
  let m := readByte (ea src s) s
  branchIf (test m.1) rr m.2

/-- Push the return address and go to `target`, which is computed before the push (44 R379, R381). -/
def callTo (target : Word) (s : State) : State := { push16 s.pc s with pc := target }

end Sys2Proof.Machine
end

