-- ==== Sys2Proof/Machine/Arith.lean ====
section
/-! DEFINITION.
Addition, subtraction, comparison and decimal adjust (41_arithmetic R255 to R275).
Each meaning runs with PC past the instruction (00 R14).
-/

namespace Sys2Proof.Machine

/-- ABA: add B to A (41 R255). -/
def execAba (s : State) : Result := .next (accOp .a (fun a m => add8 a m false) (.imm s.b) s)

/-- ABX: add B, unsigned, to IX (41 R256). -/
def execAbx (s : State) : Result := .next { s with ix := s.ix + zext16 s.b }

/-- ABY: add B, unsigned, to IY (41 R257). -/
def execAby (s : State) : Result := .next { s with iy := s.iy + zext16 s.b }

/-- ADCA: add with the old C (41 R258). -/
def execAdca (src : Src8) (s : State) : Result :=
  .next (accOp .a (fun a m c => add8 a m c.c c) src s)

/-- ADCB: add with the old C (41 R259). -/
def execAdcb (src : Src8) (s : State) : Result :=
  .next (accOp .b (fun a m c => add8 a m c.c c) src s)

/-- ADDA: add (41 R260). -/
def execAdda (src : Src8) (s : State) : Result := .next (accOp .a (fun a m => add8 a m false) src s)

/-- ADDB: add (41 R261). -/
def execAddb (src : Src8) (s : State) : Result := .next (accOp .b (fun a m => add8 a m false) src s)

/-- ADDD: add to D (41 R262). -/
def execAddd (src : Src16) (s : State) : Result := .next (wideOp .d add16 src s)

/-- SBA: subtract B from A (41 R263). -/
def execSba (s : State) : Result := .next (accOp .a (fun a m => sub8 a m false) (.imm s.b) s)

/-- SBCA: subtract with the old C as borrow (41 R264). -/
def execSbca (src : Src8) (s : State) : Result :=
  .next (accOp .a (fun a m c => sub8 a m c.c c) src s)

/-- SBCB: subtract with the old C as borrow (41 R265). -/
def execSbcb (src : Src8) (s : State) : Result :=
  .next (accOp .b (fun a m c => sub8 a m c.c c) src s)

/-- SUBA: subtract (41 R266). -/
def execSuba (src : Src8) (s : State) : Result := .next (accOp .a (fun a m => sub8 a m false) src s)

/-- SUBB: subtract (41 R267). -/
def execSubb (src : Src8) (s : State) : Result := .next (accOp .b (fun a m => sub8 a m false) src s)

/-- SUBD: subtract from D (41 R268). -/
def execSubd (src : Src16) (s : State) : Result := .next (wideOp .d sub16 src s)

/-- CBA: compare A to B (41 R269). -/
def execCba (s : State) : Result := .next (accTest .a (fun a m => sub8 a m false) (.imm s.b) s)

/-- CMPA: compare (41 R270). -/
def execCmpa (src : Src8) (s : State) : Result :=
  .next (accTest .a (fun a m => sub8 a m false) src s)

/-- CMPB: compare (41 R271). -/
def execCmpb (src : Src8) (s : State) : Result :=
  .next (accTest .b (fun a m => sub8 a m false) src s)

/-- CPD: compare D (41 R272). -/
def execCpd (src : Src16) (s : State) : Result := .next (wideTest .d sub16 src s)

/-- CPX: compare IX (41 R273). -/
def execCpx (src : Src16) (s : State) : Result := .next (wideTest .x sub16 src s)

/-- CPY: compare IY (41 R274). -/
def execCpy (src : Src16) (s : State) : Result := .next (wideTest .y sub16 src s)

/-- DAA: decimal adjust A; V is a free bit (41 R275). -/
def execDaa (s : State) : Result := .next (accUnary .a (daa8 (drawBit s).1) (drawBit s).2)

end Sys2Proof.Machine
end

