-- ==== Sys2Proof/Machine/Branch.lean ====
section
/-! DEFINITION.
Branches, jumps, calls and returns (44_branch_jump R361 to R382).
Each meaning runs with PC past the instruction (00 R14).
-/

namespace Sys2Proof.Machine

/-- BRA: branch always (44 R361). -/
def execBra (rr : Byte) (s : State) : Result := .next (branchIf true rr s)

/-- BRN: branch never (44 R362). -/
def execBrn (rr : Byte) (s : State) : Result := .next (branchIf false rr s)

/-- BCC: branch if C = 0 (44 R363). -/
def execBcc (rr : Byte) (s : State) : Result := .next (branchIf (!s.ccr.c) rr s)

/-- BCS: branch if C = 1 (44 R364). -/
def execBcs (rr : Byte) (s : State) : Result := .next (branchIf (s.ccr.c) rr s)

/-- BEQ: branch if Z = 1 (44 R365). -/
def execBeq (rr : Byte) (s : State) : Result := .next (branchIf (s.ccr.z) rr s)

/-- BNE: branch if Z = 0 (44 R366). -/
def execBne (rr : Byte) (s : State) : Result := .next (branchIf (!s.ccr.z) rr s)

/-- BMI: branch if N = 1 (44 R367). -/
def execBmi (rr : Byte) (s : State) : Result := .next (branchIf (s.ccr.n) rr s)

/-- BPL: branch if N = 0 (44 R368). -/
def execBpl (rr : Byte) (s : State) : Result := .next (branchIf (!s.ccr.n) rr s)

/-- BVS: branch if V = 1 (44 R369). -/
def execBvs (rr : Byte) (s : State) : Result := .next (branchIf (s.ccr.v) rr s)

/-- BVC: branch if V = 0 (44 R370). -/
def execBvc (rr : Byte) (s : State) : Result := .next (branchIf (!s.ccr.v) rr s)

/-- BGE: branch if N xor V = 0 (44 R371). -/
def execBge (rr : Byte) (s : State) : Result := .next (branchIf (!(s.ccr.n ^^ s.ccr.v)) rr s)

/-- BGT: branch if Z or (N xor V) = 0 (44 R372). -/
def execBgt (rr : Byte) (s : State) : Result :=
  .next (branchIf (!(s.ccr.z || (s.ccr.n ^^ s.ccr.v))) rr s)

/-- BLE: branch if Z or (N xor V) = 1 (44 R373). -/
def execBle (rr : Byte) (s : State) : Result :=
  .next (branchIf (s.ccr.z || (s.ccr.n ^^ s.ccr.v)) rr s)

/-- BLT: branch if N xor V = 1 (44 R374). -/
def execBlt (rr : Byte) (s : State) : Result := .next (branchIf (s.ccr.n ^^ s.ccr.v) rr s)

/-- BHI: branch if C or Z = 0 (44 R375). -/
def execBhi (rr : Byte) (s : State) : Result := .next (branchIf (!(s.ccr.c || s.ccr.z)) rr s)

/-- BLS: branch if C or Z = 1 (44 R376). -/
def execBls (rr : Byte) (s : State) : Result := .next (branchIf (s.ccr.c || s.ccr.z) rr s)

/-- BRSET: branch if all bits of the mask are set (44 R377). -/
def execBrset (src : MemOp) (mm rr : Byte) (s : State) : Result :=
  .next (bitBranch (fun m => (~~~m) &&& mm == 0) src rr s)

/-- BRCLR: branch if all bits of the mask are clear (44 R378). -/
def execBrclr (src : MemOp) (mm rr : Byte) (s : State) : Result :=
  .next (bitBranch (fun m => m &&& mm == 0) src rr s)

/-- BSR: branch to subroutine (44 R379). -/
def execBsr (rr : Byte) (s : State) : Result := .next (callTo (s.pc + sext16 rr) s)

/-- JMP: jump to the effective address (44 R380). -/
def execJmp (dst : MemOp) (s : State) : Result := .next { s with pc := ea dst s }

/-- JSR: jump to subroutine (44 R381). -/
def execJsr (dst : MemOp) (s : State) : Result := .next (callTo (ea dst s) s)

/-- RTS: return from subroutine (44 R382). -/
def execRts (s : State) : Result := .next { (pull16 s).2 with pc := (pull16 s).1 }

end Sys2Proof.Machine
end

