-- ==== Sys2Proof/Machine/IncDec.lean ====
section
/-! DEFINITION.
Increment, decrement, negate and test (41_arithmetic R276 to R293).
Each meaning runs with PC past the instruction (00 R14).
-/

namespace Sys2Proof.Machine

/-- DEC: decrement a memory byte (41 R276). -/
def execDec (dst : MemOp) (s : State) : Result := .next (modifyByte dec8 dst s)

/-- DECA: decrement A (41 R277). -/
def execDeca (s : State) : Result := .next (accUnary .a dec8 s)

/-- DECB: decrement B (41 R278). -/
def execDecb (s : State) : Result := .next (accUnary .b dec8 s)

/-- DES: decrement SP (41 R279). -/
def execDes (s : State) : Result := .next { s with sp := s.sp - 1 }

/-- DEX: decrement IX, only Z (41 R280). -/
def execDex (s : State) : Result :=
  .next { s with ix := s.ix - 1, ccr := { s.ccr with z := s.ix - 1 == 0 } }

/-- DEY: decrement IY, only Z (41 R281). -/
def execDey (s : State) : Result :=
  .next { s with iy := s.iy - 1, ccr := { s.ccr with z := s.iy - 1 == 0 } }

/-- INC: increment a memory byte (41 R282). -/
def execInc (dst : MemOp) (s : State) : Result := .next (modifyByte inc8 dst s)

/-- INCA: increment A (41 R283). -/
def execInca (s : State) : Result := .next (accUnary .a inc8 s)

/-- INCB: increment B (41 R284). -/
def execIncb (s : State) : Result := .next (accUnary .b inc8 s)

/-- INS: increment SP (41 R285). -/
def execIns (s : State) : Result := .next { s with sp := s.sp + 1 }

/-- INX: increment IX, only Z (41 R286). -/
def execInx (s : State) : Result :=
  .next { s with ix := s.ix + 1, ccr := { s.ccr with z := s.ix + 1 == 0 } }

/-- INY: increment IY, only Z (41 R287). -/
def execIny (s : State) : Result :=
  .next { s with iy := s.iy + 1, ccr := { s.ccr with z := s.iy + 1 == 0 } }

/-- NEG: negate a memory byte (41 R288). -/
def execNeg (dst : MemOp) (s : State) : Result := .next (modifyByte neg8 dst s)

/-- NEGA: negate A (41 R289). -/
def execNega (s : State) : Result := .next (accUnary .a neg8 s)

/-- NEGB: negate B (41 R290). -/
def execNegb (s : State) : Result := .next (accUnary .b neg8 s)

/-- TST: test a memory byte, read once and not written (41 R291). -/
def execTst (dst : MemOp) (s : State) : Result := .next (memTest tst8 dst s)

/-- TSTA: test A (41 R292). -/
def execTsta (s : State) : Result := .next (accUnary .a tst8 s)

/-- TSTB: test B (41 R293). -/
def execTstb (s : State) : Result := .next (accUnary .b tst8 s)

end Sys2Proof.Machine
end

