-- ==== Sys2Proof/Machine/LoadStore.lean ====
section
/-! DEFINITION.
Loads, stores and clears (40_load_store_transfer R201 to R212, R231 to R233).
Each meaning runs with PC past the instruction (00 R14).
-/

namespace Sys2Proof.Machine

/-- LDAA: load the accumulator (40 R201). -/
def execLdaa (src : Src8) (s : State) : Result := .next (load8 .a src s)

/-- LDAB: load the accumulator (40 R202). -/
def execLdab (src : Src8) (s : State) : Result := .next (load8 .b src s)

/-- LDD: load the register (40 R203). -/
def execLdd (src : Src16) (s : State) : Result := .next (load16 .d src s)

/-- LDS: load the register (40 R204). -/
def execLds (src : Src16) (s : State) : Result := .next (load16 .sp src s)

/-- LDX: load the register (40 R205). -/
def execLdx (src : Src16) (s : State) : Result := .next (load16 .x src s)

/-- LDY: load the register (40 R206). -/
def execLdy (src : Src16) (s : State) : Result := .next (load16 .y src s)

/-- STAA: store the accumulator (40 R207). -/
def execStaa (dst : MemOp) (s : State) : Result := .next (store8 .a dst s)

/-- STAB: store the accumulator (40 R208). -/
def execStab (dst : MemOp) (s : State) : Result := .next (store8 .b dst s)

/-- STD: store the register (40 R209). -/
def execStd (dst : MemOp) (s : State) : Result := .next (store16 .d dst s)

/-- STS: store the register (40 R210). -/
def execSts (dst : MemOp) (s : State) : Result := .next (store16 .sp dst s)

/-- STX: store the register (40 R211). -/
def execStx (dst : MemOp) (s : State) : Result := .next (store16 .x dst s)

/-- STY: store the register (40 R212). -/
def execSty (dst : MemOp) (s : State) : Result := .next (store16 .y dst s)

/-- CLR: clear a memory byte; the location is read before it is written (20 R151) (40 R231). -/
def execClr (dst : MemOp) (s : State) : Result := .next (modifyByte clr8 dst s)

/-- CLRA: clear A (40 R232). -/
def execClra (s : State) : Result := .next (accUnary .a clr8 s)

/-- CLRB: clear B (40 R233). -/
def execClrb (s : State) : Result := .next (accUnary .b clr8 s)

end Sys2Proof.Machine
end

