-- ==== Sys2Proof/Machine/Logic.lean ====
section
/-! DEFINITION.
Logic, complement, bit set and clear (42_logic_bit R311 to R323).
Each meaning runs with PC past the instruction (00 R14).
-/

namespace Sys2Proof.Machine

/-- ANDA: and (42 R311). -/
def execAnda (src : Src8) (s : State) : Result :=
  .next (accOp .a (fun a m c => (a &&& m, c.logic8 (a &&& m))) src s)

/-- ANDB: and (42 R312). -/
def execAndb (src : Src8) (s : State) : Result :=
  .next (accOp .b (fun a m c => (a &&& m, c.logic8 (a &&& m))) src s)

/-- BITA: bit test (42 R313). -/
def execBita (src : Src8) (s : State) : Result :=
  .next (accTest .a (fun a m c => (a &&& m, c.logic8 (a &&& m))) src s)

/-- BITB: bit test (42 R314). -/
def execBitb (src : Src8) (s : State) : Result :=
  .next (accTest .b (fun a m c => (a &&& m, c.logic8 (a &&& m))) src s)

/-- EORA: exclusive or (42 R315). -/
def execEora (src : Src8) (s : State) : Result :=
  .next (accOp .a (fun a m c => (a ^^^ m, c.logic8 (a ^^^ m))) src s)

/-- EORB: exclusive or (42 R316). -/
def execEorb (src : Src8) (s : State) : Result :=
  .next (accOp .b (fun a m c => (a ^^^ m, c.logic8 (a ^^^ m))) src s)

/-- ORAA: inclusive or (42 R317). -/
def execOraa (src : Src8) (s : State) : Result :=
  .next (accOp .a (fun a m c => (a ||| m, c.logic8 (a ||| m))) src s)

/-- ORAB: inclusive or (42 R318). -/
def execOrab (src : Src8) (s : State) : Result :=
  .next (accOp .b (fun a m c => (a ||| m, c.logic8 (a ||| m))) src s)

/-- COM: complement a memory byte (42 R319). -/
def execCom (dst : MemOp) (s : State) : Result := .next (modifyByte com8 dst s)

/-- COMA: complement A (42 R320). -/
def execComa (s : State) : Result := .next (accUnary .a com8 s)

/-- COMB: complement B (42 R321). -/
def execComb (s : State) : Result := .next (accUnary .b com8 s)

/-- BSET: set the bits of the mask (42 R322). -/
def execBset (dst : MemOp) (mm : Byte) (s : State) : Result :=
  .next (modifyByte (fun m c => (m ||| mm, c.logic8 (m ||| mm))) dst s)

/-- BCLR: clear the bits of the mask (42 R323). -/
def execBclr (dst : MemOp) (mm : Byte) (s : State) : Result :=
  .next (modifyByte (fun m c => (m &&& ~~~mm, c.logic8 (m &&& ~~~mm))) dst s)

end Sys2Proof.Machine
end

