-- ==== Sys2Proof/Machine/MulDiv.lean ====
section
/-! DEFINITION.
Multiplication and division (41_arithmetic R294 to R296).
Each meaning runs with PC past the instruction (00 R14).
-/

namespace Sys2Proof.Machine

/-- The unsigned product of A and B in D; C is its bit 7 (41 R294). -/
def mulD (s : State) : State :=
  let p := zext16 s.a * zext16 s.b
  Reg16.set p { s with ccr := { s.ccr with c := p.getLsbD 7 } } .d

/-- A quotient in IX and a remainder in D, with Z of the quotient, V and C clear (41 R295, R296). -/
def divided (q r : Nat) (s : State) : State :=
  Reg16.set (BitVec.ofNat 16 r)
    { s with
      ix := BitVec.ofNat 16 q
      ccr := { s.ccr with z := BitVec.ofNat 16 q == (0 : Word), v := false, c := false } } .d

/-- A division with no quotient: IX is $FFFF, D is a free value, Z is 0 and V, C say why (41 R295, R296,
assumption log 18). -/
def notDivided (v c : Bool) (s : State) : State :=
  let d := drawWord s
  Reg16.set d.1 { d.2 with ix := 0xFFFF, ccr := { s.ccr with z := false, v := v, c := c } } .d

/-- IDIV: unsigned D by IX, C = 1 on a zero divisor (41 R295). -/
def integerDivide (s : State) : State :=
  let d := (Reg16.get s .d).toNat
  if s.ix = 0 then notDivided false true s
  else divided (d / s.ix.toNat) (d % s.ix.toNat) s

/-- FDIV: the fraction D by IX, V = 1 where IX is not above D, C = 1 on a zero divisor (41 R296). -/
def fractionalDivide (s : State) : State :=
  let d := (Reg16.get s .d).toNat
  if s.ix = 0 then notDivided true true s
  else if s.ix.toNat ≤ d then notDivided true false s
  else divided (d * 65536 / s.ix.toNat) (d * 65536 % s.ix.toNat) s

/-- MUL: multiply A by B into D (41 R294). -/
def execMul (s : State) : Result := .next (mulD s)

/-- IDIV: integer divide D by IX (41 R295). -/
def execIdiv (s : State) : Result := .next (integerDivide s)

/-- FDIV: fractional divide D by IX (41 R296). -/
def execFdiv (s : State) : Result := .next (fractionalDivide s)

end Sys2Proof.Machine
end

