-- ==== Sys2Proof/Machine/Shift.lean ====
section
/-! DEFINITION.
Shifts and rotates (43_shift_rotate R331 to R347).
Each meaning runs with PC past the instruction (00 R14).
-/

namespace Sys2Proof.Machine

/-- ASL: arithmetic shift left of a memory byte (43 R331). -/
def execAsl (dst : MemOp) (s : State) : Result := .next (modifyByte asl8 dst s)

/-- ASLA: arithmetic shift left A (43 R332). -/
def execAsla (s : State) : Result := .next (accUnary .a asl8 s)

/-- ASLB: arithmetic shift left B (43 R333). -/
def execAslb (s : State) : Result := .next (accUnary .b asl8 s)

/-- ASLD: arithmetic shift left D (43 R334). -/
def execAsld (s : State) : Result := .next (wideUnary asl16 s)

/-- ASR: arithmetic shift right of a memory byte (43 R335). -/
def execAsr (dst : MemOp) (s : State) : Result := .next (modifyByte asr8 dst s)

/-- ASRA: arithmetic shift right A (43 R336). -/
def execAsra (s : State) : Result := .next (accUnary .a asr8 s)

/-- ASRB: arithmetic shift right B (43 R337). -/
def execAsrb (s : State) : Result := .next (accUnary .b asr8 s)

/-- LSR: logical shift right of a memory byte (43 R338). -/
def execLsr (dst : MemOp) (s : State) : Result := .next (modifyByte lsr8 dst s)

/-- LSRA: logical shift right A (43 R339). -/
def execLsra (s : State) : Result := .next (accUnary .a lsr8 s)

/-- LSRB: logical shift right B (43 R340). -/
def execLsrb (s : State) : Result := .next (accUnary .b lsr8 s)

/-- LSRD: logical shift right D (43 R341). -/
def execLsrd (s : State) : Result := .next (wideUnary lsr16 s)

/-- ROL: rotate left through C of a memory byte (43 R342). -/
def execRol (dst : MemOp) (s : State) : Result := .next (modifyByte rol8 dst s)

/-- ROLA: rotate left through C A (43 R343). -/
def execRola (s : State) : Result := .next (accUnary .a rol8 s)

/-- ROLB: rotate left through C B (43 R344). -/
def execRolb (s : State) : Result := .next (accUnary .b rol8 s)

/-- ROR: rotate right through C of a memory byte (43 R345). -/
def execRor (dst : MemOp) (s : State) : Result := .next (modifyByte ror8 dst s)

/-- RORA: rotate right through C A (43 R346). -/
def execRora (s : State) : Result := .next (accUnary .a ror8 s)

/-- RORB: rotate right through C B (43 R347). -/
def execRorb (s : State) : Result := .next (accUnary .b ror8 s)

end Sys2Proof.Machine
end

