-- ==== Sys2Proof/Machine/Stack.lean ====
section
/-! DEFINITION.
Stack pushes and pulls (40_load_store_transfer R223 to R230).
Each meaning runs with PC past the instruction (00 R14).
-/

namespace Sys2Proof.Machine

/-- PSHA: push A (40 R223). -/
def execPsha (s : State) : Result := .next (push8 s.a s)

/-- PSHB: push B (40 R224). -/
def execPshb (s : State) : Result := .next (push8 s.b s)

/-- PSHX: push IX, low byte first (40 R225). -/
def execPshx (s : State) : Result := .next (push16 s.ix s)

/-- PSHY: push IY, low byte first (40 R226). -/
def execPshy (s : State) : Result := .next (push16 s.iy s)

/-- PULA: pull A (40 R227). -/
def execPula (s : State) : Result := .next { (pull8 s).2 with a := (pull8 s).1 }

/-- PULB: pull B (40 R228). -/
def execPulb (s : State) : Result := .next { (pull8 s).2 with b := (pull8 s).1 }

/-- PULX: pull IX, high byte first (40 R229). -/
def execPulx (s : State) : Result := .next { (pull16 s).2 with ix := (pull16 s).1 }

/-- PULY: pull IY, high byte first (40 R230). -/
def execPuly (s : State) : Result := .next { (pull16 s).2 with iy := (pull16 s).1 }

end Sys2Proof.Machine
end

