-- ==== Sys2Proof/Machine/Devices.lean ====
section
/-! DEFINITION.
The devices advancing with the E clock (60_exceptions R460, 70_reset_and_hazards R550), one cycle at a
time.
-/

namespace Sys2Proof.Machine

/-- CONFIG.NOCOP (10 R87). -/
def State.nocop (s : State) : Bool := bit s.sys.config 2

/-- The watchdog's rate n: 1, 4, 16 or 64 (60 R475). -/
def State.copRate (s : State) : Nat := 4 ^ (s.sys.option.toNat % 4)

/-- The watchdog, after this cycle has been counted: at a tick of the free-running divider it fails when
at least n times 2^15 cycles have passed since it was cleared (60 R475). -/
def copTick (s : State) : State :=
  let s := { s with cop := { s.cop with count := s.cop.count + 1 } }
  if !s.nocop && decide (s.cycles % 2 ^ 15 = 0) && decide (s.copRate * 2 ^ 15 ≤ s.cop.count) then
    { s with copFail := true }
  else s

/-- The timer's cycle. -/
def timerTick (s : State) : State :=
  { s with timer := s.timer.tick s.cycles (bit s.env.pins.pa 7) }

/-- Append what the chip has sent, newest first. -/
def send (out : List Output) (s : State) : State :=
  { s with env := { s.env with outputs := out ++ s.env.outputs } }

/-- The SCI transmitter's cycle (60 R480). -/
def sciTick (s : State) : State :=
  let r := s.sci.tick
  send r.2 { s with sci := r.1 }

/-- The SPI's cycle (60 R485). -/
def spiTick (s : State) : State :=
  let r := s.spi.tick s.env.spiIn
  send r.2 { s with spi := r.1 }

/-- One E cycle of every device (60 R460). -/
def tick (s : State) : State :=
  adcTick (spiTick (sciTick (copTick (timerTick { s with cycles := s.cycles + 1 }))))

/-- `n` E cycles. -/
def advance : Nat → State → State
  | 0, s => s
  | n + 1, s => advance n (tick s)

/-- The devices count the cycles owed to them (70 R545; assumption log 9). -/
def catchUp (s : State) : State := advance s.owed { s with owed := 0 }

/-- The devices count an instruction's cycles and those owed; TCNT as it is two cycles before the end is
what a 16-bit read of it returns (70 R550). -/
def spend (n : Nat) (s : State) : State :=
  let s := advance (s.owed + n - 2) { s with owed := 0 }
  advance 2 { s with tcnt16 := s.timer.tcnt }

end Sys2Proof.Machine
end

