-- ==== Sys2Proof/Machine/Environment.lean ====
section
/-! DEFINITION.
What the environment does to the chip (60_exceptions R460, 92 D28): pin levels and their edges, serial
characters, analog levels, the clock failure.
-/

namespace Sys2Proof.Machine

/-- The units' answer to an event, which a stop withholds: their clocks are halted and their registers
kept (45 R412). -/
def unlessStopped (f : State → State) (s : State) : State := if s.run = .stopped then s else f s

/-- What a change of the pins does to the clocked units: port A edges reach the captures and the pulse
accumulator (60 R473, R477), a falling SS with PD5 an input is a mode fault of a master (60 R485). -/
def pinEdges (old new : Pins) (s : State) : State :=
  { s with
    timer := (s.timer.captures old.pa new.pa).paEdge (bit old.pa 7) (bit new.pa 7)
    spi := if bit old.pd 5 && !bit new.pd 5 && !bit s.ports.ddrd 5 then s.spi.modeFault else s.spi }

/-- The pins take new levels: a falling IRQ sets the edge latch where IRQE = 1, in a stop too, which it can
end (60 R431, 45 R413); the clocked units see the edges. -/
def setPins (p : Pins) (s : State) : State :=
  unlessStopped (pinEdges s.env.pins p)
    { s with
      env := { s.env with pins := p }
      irqEdge := s.irqEdge || (bit s.sys.option 5 && s.env.pins.irq && !p.irq) }

/-- A master clocks a byte into the SPI as a slave (60 R485). -/
def spiSlaveByte (data : Byte) (s : State) : State :=
  let r := s.spi.slave data (bit s.env.pins.pd 5)
  send r.2 { s with spi := r.1 }

/-- The clock monitor is on: CME, or forced by FCME (60 R476). -/
def State.monitorOn (s : State) : Bool := bit s.sys.option 3 || s.sys.forcedCm

/-- One event of the environment; what reaches a stopped serial unit is lost (45 R412, assumption log
15). -/
def applyEvent (e : Event) (s : State) : State :=
  match e with
  | .idle => s
  | .pins p => setPins p s
  | .clockFail => { s with clockFail := s.clockFail || s.monitorOn }
  | .sciRx data ninth framingOk noisy =>
    unlessStopped (fun s => { s with sci := s.sci.rx data ninth framingOk noisy }) s
  | .sciIdle => unlessStopped (fun s => { s with sci := s.sci.idle }) s
  | .spiSlave data => unlessStopped (spiSlaveByte data) s
  | .spiReply data => { s with env := { s.env with spiIn := data } }
  | .analog ch v => { s with env := { s.env with analog := s.env.analog.set ch v } }

/-- Take the next event of the environment, if there is one (assumption log 30). -/
def nextEvent (s : State) : State :=
  match s.env.inputs with
  | [] => s
  | e :: es => applyEvent e { s with env := { s.env with inputs := es } }

/-- An instruction boundary: the devices catch up, but not while the clocks are stopped (45 R412); then
the environment acts. -/
def boundary (s : State) : State := nextEvent (if s.run = .stopped then s else catchUp s)

end Sys2Proof.Machine
end

