-- ==== Sys2Proof/Machine/System.lean ====
section
/-! DEFINITION.
Condition codes, interrupt return, software interrupt, wait, stop and test (45_ccr_system R400 to R414).
Each meaning runs with PC past the instruction (00 R14).
-/

namespace Sys2Proof.Machine

/-- CLC: clear C (45 R400). -/
def execClc (s : State) : Result := .next { s with ccr := { s.ccr with c := false } }

/-- CLI: clear I; the next boundary takes no maskable interrupt (R409) (45 R401). -/
def execCli (s : State) : Result :=
  .next { s with ccr := { s.ccr with i := false }, inhibit := true }

/-- CLV: clear V (45 R402). -/
def execClv (s : State) : Result := .next { s with ccr := { s.ccr with v := false } }

/-- SEC: set C (45 R403). -/
def execSec (s : State) : Result := .next { s with ccr := { s.ccr with c := true } }

/-- SEI: set I (45 R404). -/
def execSei (s : State) : Result := .next { s with ccr := { s.ccr with i := true } }

/-- SEV: set V (45 R405). -/
def execSev (s : State) : Result := .next { s with ccr := { s.ccr with v := true } }

/-- NOP: no operation (45 R406). -/
def execNop (s : State) : Result := .next s

/-- RTI: return from interrupt (45 R407). -/
def execRti (s : State) : Result := .next (unstackRegisters s)

/-- SWI: software interrupt: the entry of 60 R440, which no mask stops (45 R408). -/
def execSwi (s : State) : Result := .next (enter swiVector false s)

/-- WAI: stack the registers and wait; the wait is 45 R411 (45 R410). -/
def execWai (s : State) : Result := .next { stackRegisters s with run := .waiting }

/-- STOP: with S = 1 nothing; else the clocks stop, which an enabled clock monitor takes for a failure
(R413) (45 R412). -/
def execStop (s : State) : Result :=
  .next (if s.ccr.s then s else { s with run := .stopped, clockFail := s.clockFail || s.monitorOn })

/-- TEST: in a special mode the CPU is stuck until reset; in a normal mode the illegal opcode trap (45
R414). -/
def execTest (s : State) : Result :=
  .next (if s.smod then { s with run := .testing } else illegalTrap (s.pc - 1) s)

end Sys2Proof.Machine
end

