-- ==== Sys2Proof/Machine/Transfer.lean ====
section
/-! DEFINITION.
Register transfers and exchanges (40_load_store_transfer R213 to R222).
Each meaning runs with PC past the instruction (00 R14).
-/

namespace Sys2Proof.Machine

/-- TAP: A to CCR, X only downwards; where it leaves I = 0 the next boundary takes no maskable
interrupt (45 R409) (40 R213). -/
def execTap (s : State) : Result := .next { s with ccr := s.ccr.load s.a, inhibit := !bit s.a 4 }

/-- TPA: CCR to A (40 R214). -/
def execTpa (s : State) : Result := .next { s with a := s.ccr.toByte }

/-- TAB: A to B (40 R215). -/
def execTab (s : State) : Result := .next { s with b := s.a, ccr := s.ccr.logic8 s.a }

/-- TBA: B to A (40 R216). -/
def execTba (s : State) : Result := .next { s with a := s.b, ccr := s.ccr.logic8 s.b }

/-- TSX: SP + 1 to IX (40 R217). -/
def execTsx (s : State) : Result := .next { s with ix := s.sp + 1 }

/-- TSY: SP + 1 to IY (40 R218). -/
def execTsy (s : State) : Result := .next { s with iy := s.sp + 1 }

/-- TXS: IX - 1 to SP (40 R219). -/
def execTxs (s : State) : Result := .next { s with sp := s.ix - 1 }

/-- TYS: IY - 1 to SP (40 R220). -/
def execTys (s : State) : Result := .next { s with sp := s.iy - 1 }

/-- XGDX: exchange D and IX (40 R221). -/
def execXgdx (s : State) : Result := .next (Reg16.set s.ix { s with ix := Reg16.get s .d } .d)

/-- XGDY: exchange D and IY (40 R222). -/
def execXgdy (s : State) : Result := .next (Reg16.set s.iy { s with iy := Reg16.get s .d } .d)

end Sys2Proof.Machine
end

