-- ==== Sys2Proof/Decode.lean ====
section
/-! DEFINITION.
The instruction decoder and encoder (30_encoding R170 to R191).
A page table maps an opcode byte to the shape of its instruction: how many operand bytes follow and what
they build. `decode` is total on byte lists and rejects by name; `encode` writes the words of an
instruction from the encodings the instruction rules list.
-/

namespace Sys2Proof

/-- The four opcode pages (30 R172). -/
inductive Page where
  | p1 | p2 | p3 | p4
deriving DecidableEq, Repr

/-- Why a byte string is no instruction. -/
inductive DecodeError where
  /-- The opcode byte is unassigned on this page: the illegal opcode trap (30 R183, R184). -/
  | illegalOpcode (page : Page) (op : Byte)
  /-- The byte string ends inside the instruction; memory never does. -/
  | truncated
deriving DecidableEq, Repr

/-- What follows an opcode: the number of operand bytes and the instruction they make, the bytes in the
order they stand in (30 R173, R174). -/
inductive Shape where
  | zero (i : Instr)
  | one (f : Byte → Instr)
  | two (f : Byte → Byte → Instr)
  | three (f : Byte → Byte → Byte → Instr)

/-- The number of operand bytes (30 R173). -/
def Shape.operands : Shape → Nat
  | .zero _ => 0
  | .one _ => 1
  | .two _ => 2
  | .three _ => 3

/-- Page 1, opcodes $00 to $3F: inherent instructions, branches and bit instructions (30 R189). -/
def page1Low (op : Nat) : Option Shape :=
  match op with
  | 0x00 => some <| .zero .test
  | 0x01 => some <| .zero .nop
  | 0x02 => some <| .zero .idiv
  | 0x03 => some <| .zero .fdiv
  | 0x04 => some <| .zero .lsrd
  | 0x05 => some <| .zero .asld
  | 0x06 => some <| .zero .tap
  | 0x07 => some <| .zero .tpa
  | 0x08 => some <| .zero .inx
  | 0x09 => some <| .zero .dex
  | 0x0A => some <| .zero .clv
  | 0x0B => some <| .zero .sev
  | 0x0C => some <| .zero .clc
  | 0x0D => some <| .zero .sec
  | 0x0E => some <| .zero .cli
  | 0x0F => some <| .zero .sei
  | 0x10 => some <| .zero .sba
  | 0x11 => some <| .zero .cba
  | 0x12 => some <| .three fun d m r => .brset (.dir d) m r
  | 0x13 => some <| .three fun d m r => .brclr (.dir d) m r
  | 0x14 => some <| .two fun d m => .bset (.dir d) m
  | 0x15 => some <| .two fun d m => .bclr (.dir d) m
  | 0x16 => some <| .zero .tab
  | 0x17 => some <| .zero .tba
  | 0x19 => some <| .zero .daa
  | 0x1B => some <| .zero .aba
  | 0x1C => some <| .two fun d m => .bset (.indX d) m
  | 0x1D => some <| .two fun d m => .bclr (.indX d) m
  | 0x1E => some <| .three fun d m r => .brset (.indX d) m r
  | 0x1F => some <| .three fun d m r => .brclr (.indX d) m r
  | 0x20 => some <| .one fun r => .bra r
  | 0x21 => some <| .one fun r => .brn r
  | 0x22 => some <| .one fun r => .bhi r
  | 0x23 => some <| .one fun r => .bls r
  | 0x24 => some <| .one fun r => .bcc r
  | 0x25 => some <| .one fun r => .bcs r
  | 0x26 => some <| .one fun r => .bne r
  | 0x27 => some <| .one fun r => .beq r
  | 0x28 => some <| .one fun r => .bvc r
  | 0x29 => some <| .one fun r => .bvs r
  | 0x2A => some <| .one fun r => .bpl r
  | 0x2B => some <| .one fun r => .bmi r
  | 0x2C => some <| .one fun r => .bge r
  | 0x2D => some <| .one fun r => .blt r
  | 0x2E => some <| .one fun r => .bgt r
  | 0x2F => some <| .one fun r => .ble r
  | 0x30 => some <| .zero .tsx
  | 0x31 => some <| .zero .ins
  | 0x32 => some <| .zero .pula
  | 0x33 => some <| .zero .pulb
  | 0x34 => some <| .zero .des
  | 0x35 => some <| .zero .txs
  | 0x36 => some <| .zero .psha
  | 0x37 => some <| .zero .pshb
  | 0x38 => some <| .zero .pulx
  | 0x39 => some <| .zero .rts
  | 0x3A => some <| .zero .abx
  | 0x3B => some <| .zero .rti
  | 0x3C => some <| .zero .pshx
  | 0x3D => some <| .zero .mul
  | 0x3E => some <| .zero .wai
  | 0x3F => some <| .zero .swi
  | _ => none

/-- Page 1, opcodes $40 to $7F: read-modify-write (30 R189). -/
def page1Acc (op : Nat) : Option Shape :=
  match op with
  | 0x40 => some <| .zero .nega
  | 0x43 => some <| .zero .coma
  | 0x44 => some <| .zero .lsra
  | 0x46 => some <| .zero .rora
  | 0x47 => some <| .zero .asra
  | 0x48 => some <| .zero .asla
  | 0x49 => some <| .zero .rola
  | 0x4A => some <| .zero .deca
  | 0x4C => some <| .zero .inca
  | 0x4D => some <| .zero .tsta
  | 0x4F => some <| .zero .clra
  | 0x50 => some <| .zero .negb
  | 0x53 => some <| .zero .comb
  | 0x54 => some <| .zero .lsrb
  | 0x56 => some <| .zero .rorb
  | 0x57 => some <| .zero .asrb
  | 0x58 => some <| .zero .aslb
  | 0x59 => some <| .zero .rolb
  | 0x5A => some <| .zero .decb
  | 0x5C => some <| .zero .incb
  | 0x5D => some <| .zero .tstb
  | 0x5F => some <| .zero .clrb
  | 0x60 => some <| .one fun d => .neg (.indX d)
  | 0x63 => some <| .one fun d => .com (.indX d)
  | 0x64 => some <| .one fun d => .lsr (.indX d)
  | 0x66 => some <| .one fun d => .ror (.indX d)
  | 0x67 => some <| .one fun d => .asr (.indX d)
  | 0x68 => some <| .one fun d => .asl (.indX d)
  | 0x69 => some <| .one fun d => .rol (.indX d)
  | 0x6A => some <| .one fun d => .dec (.indX d)
  | 0x6C => some <| .one fun d => .inc (.indX d)
  | 0x6D => some <| .one fun d => .tst (.indX d)
  | 0x6E => some <| .one fun d => .jmp (.indX d)
  | 0x6F => some <| .one fun d => .clr (.indX d)
  | 0x70 => some <| .two fun h l => .neg (.ext (mk16 h l))
  | 0x73 => some <| .two fun h l => .com (.ext (mk16 h l))
  | 0x74 => some <| .two fun h l => .lsr (.ext (mk16 h l))
  | 0x76 => some <| .two fun h l => .ror (.ext (mk16 h l))
  | 0x77 => some <| .two fun h l => .asr (.ext (mk16 h l))
  | 0x78 => some <| .two fun h l => .asl (.ext (mk16 h l))
  | 0x79 => some <| .two fun h l => .rol (.ext (mk16 h l))
  | 0x7A => some <| .two fun h l => .dec (.ext (mk16 h l))
  | 0x7C => some <| .two fun h l => .inc (.ext (mk16 h l))
  | 0x7D => some <| .two fun h l => .tst (.ext (mk16 h l))
  | 0x7E => some <| .two fun h l => .jmp (.ext (mk16 h l))
  | 0x7F => some <| .two fun h l => .clr (.ext (mk16 h l))
  | _ => none

/-- Page 1, opcodes $80 to $BF: accumulator A (30 R189). -/
def page1A (op : Nat) : Option Shape :=
  match op with
  | 0x80 => some <| .one fun i => .suba (.imm i)
  | 0x81 => some <| .one fun i => .cmpa (.imm i)
  | 0x82 => some <| .one fun i => .sbca (.imm i)
  | 0x83 => some <| .two fun j k => .subd (.imm (mk16 j k))
  | 0x84 => some <| .one fun i => .anda (.imm i)
  | 0x85 => some <| .one fun i => .bita (.imm i)
  | 0x86 => some <| .one fun i => .ldaa (.imm i)
  | 0x88 => some <| .one fun i => .eora (.imm i)
  | 0x89 => some <| .one fun i => .adca (.imm i)
  | 0x8A => some <| .one fun i => .oraa (.imm i)
  | 0x8B => some <| .one fun i => .adda (.imm i)
  | 0x8C => some <| .two fun j k => .cpx (.imm (mk16 j k))
  | 0x8D => some <| .one fun r => .bsr r
  | 0x8E => some <| .two fun j k => .lds (.imm (mk16 j k))
  | 0x8F => some <| .zero .xgdx
  | 0x90 => some <| .one fun d => .suba (.mem (.dir d))
  | 0x91 => some <| .one fun d => .cmpa (.mem (.dir d))
  | 0x92 => some <| .one fun d => .sbca (.mem (.dir d))
  | 0x93 => some <| .one fun d => .subd (.mem (.dir d))
  | 0x94 => some <| .one fun d => .anda (.mem (.dir d))
  | 0x95 => some <| .one fun d => .bita (.mem (.dir d))
  | 0x96 => some <| .one fun d => .ldaa (.mem (.dir d))
  | 0x97 => some <| .one fun d => .staa (.dir d)
  | 0x98 => some <| .one fun d => .eora (.mem (.dir d))
  | 0x99 => some <| .one fun d => .adca (.mem (.dir d))
  | 0x9A => some <| .one fun d => .oraa (.mem (.dir d))
  | 0x9B => some <| .one fun d => .adda (.mem (.dir d))
  | 0x9C => some <| .one fun d => .cpx (.mem (.dir d))
  | 0x9D => some <| .one fun d => .jsr (.dir d)
  | 0x9E => some <| .one fun d => .lds (.mem (.dir d))
  | 0x9F => some <| .one fun d => .sts (.dir d)
  | 0xA0 => some <| .one fun d => .suba (.mem (.indX d))
  | 0xA1 => some <| .one fun d => .cmpa (.mem (.indX d))
  | 0xA2 => some <| .one fun d => .sbca (.mem (.indX d))
  | 0xA3 => some <| .one fun d => .subd (.mem (.indX d))
  | 0xA4 => some <| .one fun d => .anda (.mem (.indX d))
  | 0xA5 => some <| .one fun d => .bita (.mem (.indX d))
  | 0xA6 => some <| .one fun d => .ldaa (.mem (.indX d))
  | 0xA7 => some <| .one fun d => .staa (.indX d)
  | 0xA8 => some <| .one fun d => .eora (.mem (.indX d))
  | 0xA9 => some <| .one fun d => .adca (.mem (.indX d))
  | 0xAA => some <| .one fun d => .oraa (.mem (.indX d))
  | 0xAB => some <| .one fun d => .adda (.mem (.indX d))
  | 0xAC => some <| .one fun d => .cpx (.mem (.indX d))
  | 0xAD => some <| .one fun d => .jsr (.indX d)
  | 0xAE => some <| .one fun d => .lds (.mem (.indX d))
  | 0xAF => some <| .one fun d => .sts (.indX d)
  | 0xB0 => some <| .two fun h l => .suba (.mem (.ext (mk16 h l)))
  | 0xB1 => some <| .two fun h l => .cmpa (.mem (.ext (mk16 h l)))
  | 0xB2 => some <| .two fun h l => .sbca (.mem (.ext (mk16 h l)))
  | 0xB3 => some <| .two fun h l => .subd (.mem (.ext (mk16 h l)))
  | 0xB4 => some <| .two fun h l => .anda (.mem (.ext (mk16 h l)))
  | 0xB5 => some <| .two fun h l => .bita (.mem (.ext (mk16 h l)))
  | 0xB6 => some <| .two fun h l => .ldaa (.mem (.ext (mk16 h l)))
  | 0xB7 => some <| .two fun h l => .staa (.ext (mk16 h l))
  | 0xB8 => some <| .two fun h l => .eora (.mem (.ext (mk16 h l)))
  | 0xB9 => some <| .two fun h l => .adca (.mem (.ext (mk16 h l)))
  | 0xBA => some <| .two fun h l => .oraa (.mem (.ext (mk16 h l)))
  | 0xBB => some <| .two fun h l => .adda (.mem (.ext (mk16 h l)))
  | 0xBC => some <| .two fun h l => .cpx (.mem (.ext (mk16 h l)))
  | 0xBD => some <| .two fun h l => .jsr (.ext (mk16 h l))
  | 0xBE => some <| .two fun h l => .lds (.mem (.ext (mk16 h l)))
  | 0xBF => some <| .two fun h l => .sts (.ext (mk16 h l))
  | _ => none

/-- Page 1, opcodes $C0 to $FF: accumulator B (30 R189). -/
def page1B (op : Nat) : Option Shape :=
  match op with
  | 0xC0 => some <| .one fun i => .subb (.imm i)
  | 0xC1 => some <| .one fun i => .cmpb (.imm i)
  | 0xC2 => some <| .one fun i => .sbcb (.imm i)
  | 0xC3 => some <| .two fun j k => .addd (.imm (mk16 j k))
  | 0xC4 => some <| .one fun i => .andb (.imm i)
  | 0xC5 => some <| .one fun i => .bitb (.imm i)
  | 0xC6 => some <| .one fun i => .ldab (.imm i)
  | 0xC8 => some <| .one fun i => .eorb (.imm i)
  | 0xC9 => some <| .one fun i => .adcb (.imm i)
  | 0xCA => some <| .one fun i => .orab (.imm i)
  | 0xCB => some <| .one fun i => .addb (.imm i)
  | 0xCC => some <| .two fun j k => .ldd (.imm (mk16 j k))
  | 0xCE => some <| .two fun j k => .ldx (.imm (mk16 j k))
  | 0xCF => some <| .zero .stop
  | 0xD0 => some <| .one fun d => .subb (.mem (.dir d))
  | 0xD1 => some <| .one fun d => .cmpb (.mem (.dir d))
  | 0xD2 => some <| .one fun d => .sbcb (.mem (.dir d))
  | 0xD3 => some <| .one fun d => .addd (.mem (.dir d))
  | 0xD4 => some <| .one fun d => .andb (.mem (.dir d))
  | 0xD5 => some <| .one fun d => .bitb (.mem (.dir d))
  | 0xD6 => some <| .one fun d => .ldab (.mem (.dir d))
  | 0xD7 => some <| .one fun d => .stab (.dir d)
  | 0xD8 => some <| .one fun d => .eorb (.mem (.dir d))
  | 0xD9 => some <| .one fun d => .adcb (.mem (.dir d))
  | 0xDA => some <| .one fun d => .orab (.mem (.dir d))
  | 0xDB => some <| .one fun d => .addb (.mem (.dir d))
  | 0xDC => some <| .one fun d => .ldd (.mem (.dir d))
  | 0xDD => some <| .one fun d => .std (.dir d)
  | 0xDE => some <| .one fun d => .ldx (.mem (.dir d))
  | 0xDF => some <| .one fun d => .stx (.dir d)
  | 0xE0 => some <| .one fun d => .subb (.mem (.indX d))
  | 0xE1 => some <| .one fun d => .cmpb (.mem (.indX d))
  | 0xE2 => some <| .one fun d => .sbcb (.mem (.indX d))
  | 0xE3 => some <| .one fun d => .addd (.mem (.indX d))
  | 0xE4 => some <| .one fun d => .andb (.mem (.indX d))
  | 0xE5 => some <| .one fun d => .bitb (.mem (.indX d))
  | 0xE6 => some <| .one fun d => .ldab (.mem (.indX d))
  | 0xE7 => some <| .one fun d => .stab (.indX d)
  | 0xE8 => some <| .one fun d => .eorb (.mem (.indX d))
  | 0xE9 => some <| .one fun d => .adcb (.mem (.indX d))
  | 0xEA => some <| .one fun d => .orab (.mem (.indX d))
  | 0xEB => some <| .one fun d => .addb (.mem (.indX d))
  | 0xEC => some <| .one fun d => .ldd (.mem (.indX d))
  | 0xED => some <| .one fun d => .std (.indX d)
  | 0xEE => some <| .one fun d => .ldx (.mem (.indX d))
  | 0xEF => some <| .one fun d => .stx (.indX d)
  | 0xF0 => some <| .two fun h l => .subb (.mem (.ext (mk16 h l)))
  | 0xF1 => some <| .two fun h l => .cmpb (.mem (.ext (mk16 h l)))
  | 0xF2 => some <| .two fun h l => .sbcb (.mem (.ext (mk16 h l)))
  | 0xF3 => some <| .two fun h l => .addd (.mem (.ext (mk16 h l)))
  | 0xF4 => some <| .two fun h l => .andb (.mem (.ext (mk16 h l)))
  | 0xF5 => some <| .two fun h l => .bitb (.mem (.ext (mk16 h l)))
  | 0xF6 => some <| .two fun h l => .ldab (.mem (.ext (mk16 h l)))
  | 0xF7 => some <| .two fun h l => .stab (.ext (mk16 h l))
  | 0xF8 => some <| .two fun h l => .eorb (.mem (.ext (mk16 h l)))
  | 0xF9 => some <| .two fun h l => .adcb (.mem (.ext (mk16 h l)))
  | 0xFA => some <| .two fun h l => .orab (.mem (.ext (mk16 h l)))
  | 0xFB => some <| .two fun h l => .addb (.mem (.ext (mk16 h l)))
  | 0xFC => some <| .two fun h l => .ldd (.mem (.ext (mk16 h l)))
  | 0xFD => some <| .two fun h l => .std (.ext (mk16 h l))
  | 0xFE => some <| .two fun h l => .ldx (.mem (.ext (mk16 h l)))
  | 0xFF => some <| .two fun h l => .stx (.ext (mk16 h l))
  | _ => none

/-- Opcode page 2: prebyte $18. (30 R189) -/
def page2 (op : Nat) : Option Shape :=
  match op with
  | 0x08 => some <| .zero .iny
  | 0x09 => some <| .zero .dey
  | 0x1C => some <| .two fun d m => .bset (.indY d) m
  | 0x1D => some <| .two fun d m => .bclr (.indY d) m
  | 0x1E => some <| .three fun d m r => .brset (.indY d) m r
  | 0x1F => some <| .three fun d m r => .brclr (.indY d) m r
  | 0x30 => some <| .zero .tsy
  | 0x35 => some <| .zero .tys
  | 0x38 => some <| .zero .puly
  | 0x3A => some <| .zero .aby
  | 0x3C => some <| .zero .pshy
  | 0x60 => some <| .one fun d => .neg (.indY d)
  | 0x63 => some <| .one fun d => .com (.indY d)
  | 0x64 => some <| .one fun d => .lsr (.indY d)
  | 0x66 => some <| .one fun d => .ror (.indY d)
  | 0x67 => some <| .one fun d => .asr (.indY d)
  | 0x68 => some <| .one fun d => .asl (.indY d)
  | 0x69 => some <| .one fun d => .rol (.indY d)
  | 0x6A => some <| .one fun d => .dec (.indY d)
  | 0x6C => some <| .one fun d => .inc (.indY d)
  | 0x6D => some <| .one fun d => .tst (.indY d)
  | 0x6E => some <| .one fun d => .jmp (.indY d)
  | 0x6F => some <| .one fun d => .clr (.indY d)
  | 0x8C => some <| .two fun j k => .cpy (.imm (mk16 j k))
  | 0x8F => some <| .zero .xgdy
  | 0x9C => some <| .one fun d => .cpy (.mem (.dir d))
  | 0xA0 => some <| .one fun d => .suba (.mem (.indY d))
  | 0xA1 => some <| .one fun d => .cmpa (.mem (.indY d))
  | 0xA2 => some <| .one fun d => .sbca (.mem (.indY d))
  | 0xA3 => some <| .one fun d => .subd (.mem (.indY d))
  | 0xA4 => some <| .one fun d => .anda (.mem (.indY d))
  | 0xA5 => some <| .one fun d => .bita (.mem (.indY d))
  | 0xA6 => some <| .one fun d => .ldaa (.mem (.indY d))
  | 0xA7 => some <| .one fun d => .staa (.indY d)
  | 0xA8 => some <| .one fun d => .eora (.mem (.indY d))
  | 0xA9 => some <| .one fun d => .adca (.mem (.indY d))
  | 0xAA => some <| .one fun d => .oraa (.mem (.indY d))
  | 0xAB => some <| .one fun d => .adda (.mem (.indY d))
  | 0xAC => some <| .one fun d => .cpy (.mem (.indY d))
  | 0xAD => some <| .one fun d => .jsr (.indY d)
  | 0xAE => some <| .one fun d => .lds (.mem (.indY d))
  | 0xAF => some <| .one fun d => .sts (.indY d)
  | 0xBC => some <| .two fun h l => .cpy (.mem (.ext (mk16 h l)))
  | 0xCE => some <| .two fun j k => .ldy (.imm (mk16 j k))
  | 0xDE => some <| .one fun d => .ldy (.mem (.dir d))
  | 0xDF => some <| .one fun d => .sty (.dir d)
  | 0xE0 => some <| .one fun d => .subb (.mem (.indY d))
  | 0xE1 => some <| .one fun d => .cmpb (.mem (.indY d))
  | 0xE2 => some <| .one fun d => .sbcb (.mem (.indY d))
  | 0xE3 => some <| .one fun d => .addd (.mem (.indY d))
  | 0xE4 => some <| .one fun d => .andb (.mem (.indY d))
  | 0xE5 => some <| .one fun d => .bitb (.mem (.indY d))
  | 0xE6 => some <| .one fun d => .ldab (.mem (.indY d))
  | 0xE7 => some <| .one fun d => .stab (.indY d)
  | 0xE8 => some <| .one fun d => .eorb (.mem (.indY d))
  | 0xE9 => some <| .one fun d => .adcb (.mem (.indY d))
  | 0xEA => some <| .one fun d => .orab (.mem (.indY d))
  | 0xEB => some <| .one fun d => .addb (.mem (.indY d))
  | 0xEC => some <| .one fun d => .ldd (.mem (.indY d))
  | 0xED => some <| .one fun d => .std (.indY d)
  | 0xEE => some <| .one fun d => .ldy (.mem (.indY d))
  | 0xEF => some <| .one fun d => .sty (.indY d)
  | 0xFE => some <| .two fun h l => .ldy (.mem (.ext (mk16 h l)))
  | 0xFF => some <| .two fun h l => .sty (.ext (mk16 h l))
  | _ => none

/-- Opcode page 3: prebyte $1A. (30 R189) -/
def page3 (op : Nat) : Option Shape :=
  match op with
  | 0x83 => some <| .two fun j k => .cpd (.imm (mk16 j k))
  | 0x93 => some <| .one fun d => .cpd (.mem (.dir d))
  | 0xA3 => some <| .one fun d => .cpd (.mem (.indX d))
  | 0xAC => some <| .one fun d => .cpy (.mem (.indX d))
  | 0xB3 => some <| .two fun h l => .cpd (.mem (.ext (mk16 h l)))
  | 0xEE => some <| .one fun d => .ldy (.mem (.indX d))
  | 0xEF => some <| .one fun d => .sty (.indX d)
  | _ => none

/-- Opcode page 4: prebyte $CD. (30 R189) -/
def page4 (op : Nat) : Option Shape :=
  match op with
  | 0xA3 => some <| .one fun d => .cpd (.mem (.indY d))
  | 0xAC => some <| .one fun d => .cpx (.mem (.indY d))
  | 0xEE => some <| .one fun d => .ldx (.mem (.indY d))
  | 0xEF => some <| .one fun d => .stx (.indY d)
  | _ => none

/-- The row of opcode `op` on a page, if the opcode is assigned there (30 R189). -/
def lookup (page : Page) (op : Byte) : Option Shape :=
  match page with
  | .p1 =>
    if op.toNat < 0x40 then page1Low op.toNat
    else if op.toNat < 0x80 then page1Acc op.toNat
    else if op.toNat < 0xC0 then page1A op.toNat
    else page1B op.toNat
  | .p2 => page2 op.toNat
  | .p3 => page3 op.toNat
  | .p4 => page4 op.toNat

/-- The page a prebyte selects (30 R172). -/
def prebyte? (b : Byte) : Option Page :=
  if b = 0x18 then some .p2 else if b = 0x1A then some .p3 else if b = 0xCD then some .p4 else none

/-- Take the operand bytes of a shape and build the instruction. -/
def Shape.take : Shape → List Byte → Except DecodeError (Instr × List Byte)
  | .zero i, rest => .ok (i, rest)
  | .one f, x :: rest => .ok (f x, rest)
  | .two f, x :: y :: rest => .ok (f x y, rest)
  | .three f, x :: y :: z :: rest => .ok (f x y z, rest)
  | _, _ => .error .truncated

/-- Decode the opcode byte and its operands on a page. -/
def decodeOn (page : Page) : List Byte → Except DecodeError (Instr × List Byte)
  | [] => .error .truncated
  | op :: rest =>
    match lookup page op with
    | none => .error (.illegalOpcode page op)
    | some sh => sh.take rest

/-- Decode the instruction at the head of a byte string, with the bytes left over (30 R171). -/
def decode : List Byte → Except DecodeError (Instr × List Byte)
  | [] => .error .truncated
  | b :: rest =>
    match prebyte? b with
    | some page => decodeOn page rest
    | none => decodeOn .p1 (b :: rest)

/-! ### The encoder -/

/-- DIR, EXT, IND,X and IND,Y words of an instruction whose DIR opcode is `d`: the column of the operand
is in bits 5 and 4 of the opcode (30 R190); `pre`, `preX`, `preY` are the prebytes of the direct and
extended, of the IND,X and of the IND,Y form. -/
def encMem (pre preX preY : List Byte) (d : Byte) : MemOp → List Byte
  | .dir dd => pre ++ [d, dd]
  | .indX ff => preX ++ [d + 0x10, ff]
  | .indY ff => preY ++ [d + 0x10, ff]
  | .ext a => pre ++ [d + 0x20, hi8 a, lo8 a]

/-- The five words of an 8-bit accumulator instruction with IMM opcode `op` (30 R190). -/
def encSrc8 (op : Byte) : Src8 → List Byte
  | .imm ii => [op, ii]
  | .mem m => encMem [] [] [0x18] (op + 0x10) m

/-- The five words of a 16-bit instruction with IMM opcode `op` (30 R190). -/
def encSrc16 (pre preX preY : List Byte) (op : Byte) : Src16 → List Byte
  | .imm w => pre ++ [op, hi8 w, lo8 w]
  | .mem m => encMem pre preX preY (op + 0x10) m

/-- IND,X, IND,Y and EXT words of a read-modify-write instruction or JMP with IND,X opcode `x`; there is
no DIR form (30 R189). -/
def encRmw (x : Byte) : MemOp → List Byte
  | .dir _ => []
  | .indX ff => [x, ff]
  | .indY ff => [0x18, x, ff]
  | .ext a => [x + 0x10, hi8 a, lo8 a]

/-- Words of a bit-manipulation instruction with DIR opcode `d` and IND opcode `x`; `tail` is the mask
and, for the branches, the offset; there is no EXT form (30 R182). -/
def encBit (d x : Byte) (tail : List Byte) : MemOp → List Byte
  | .dir dd => d :: dd :: tail
  | .indX ff => x :: ff :: tail
  | .indY ff => 0x18 :: x :: ff :: tail
  | .ext _ => []

/-- The bytes of an instruction in address order; a form the table does not have has none. -/
def encode : Instr → List Byte
  | .ldaa src => encSrc8 0x86 src
  | .ldab src => encSrc8 0xC6 src
  | .ldd src => encSrc16 [] [] [0x18] 0xCC src
  | .lds src => encSrc16 [] [] [0x18] 0x8E src
  | .ldx src => encSrc16 [] [] [0xCD] 0xCE src
  | .ldy src => encSrc16 [0x18] [0x1A] [0x18] 0xCE src
  | .staa dst => encMem [] [] [0x18] 0x97 dst
  | .stab dst => encMem [] [] [0x18] 0xD7 dst
  | .std dst => encMem [] [] [0x18] 0xDD dst
  | .sts dst => encMem [] [] [0x18] 0x9F dst
  | .stx dst => encMem [] [] [0xCD] 0xDF dst
  | .sty dst => encMem [0x18] [0x1A] [0x18] 0xDF dst
  | .tap => [0x06]
  | .tpa => [0x07]
  | .tab => [0x16]
  | .tba => [0x17]
  | .tsx => [0x30]
  | .tsy => [0x18, 0x30]
  | .txs => [0x35]
  | .tys => [0x18, 0x35]
  | .xgdx => [0x8F]
  | .xgdy => [0x18, 0x8F]
  | .psha => [0x36]
  | .pshb => [0x37]
  | .pshx => [0x3C]
  | .pshy => [0x18, 0x3C]
  | .pula => [0x32]
  | .pulb => [0x33]
  | .pulx => [0x38]
  | .puly => [0x18, 0x38]
  | .clr dst => encRmw 0x6F dst
  | .clra => [0x4F]
  | .clrb => [0x5F]
  | .aba => [0x1B]
  | .abx => [0x3A]
  | .aby => [0x18, 0x3A]
  | .adca src => encSrc8 0x89 src
  | .adcb src => encSrc8 0xC9 src
  | .adda src => encSrc8 0x8B src
  | .addb src => encSrc8 0xCB src
  | .addd src => encSrc16 [] [] [0x18] 0xC3 src
  | .sba => [0x10]
  | .sbca src => encSrc8 0x82 src
  | .sbcb src => encSrc8 0xC2 src
  | .suba src => encSrc8 0x80 src
  | .subb src => encSrc8 0xC0 src
  | .subd src => encSrc16 [] [] [0x18] 0x83 src
  | .cba => [0x11]
  | .cmpa src => encSrc8 0x81 src
  | .cmpb src => encSrc8 0xC1 src
  | .cpd src => encSrc16 [0x1A] [0x1A] [0xCD] 0x83 src
  | .cpx src => encSrc16 [] [] [0xCD] 0x8C src
  | .cpy src => encSrc16 [0x18] [0x1A] [0x18] 0x8C src
  | .daa => [0x19]
  | .dec dst => encRmw 0x6A dst
  | .deca => [0x4A]
  | .decb => [0x5A]
  | .des => [0x34]
  | .dex => [0x09]
  | .dey => [0x18, 0x09]
  | .inc dst => encRmw 0x6C dst
  | .inca => [0x4C]
  | .incb => [0x5C]
  | .ins => [0x31]
  | .inx => [0x08]
  | .iny => [0x18, 0x08]
  | .neg dst => encRmw 0x60 dst
  | .nega => [0x40]
  | .negb => [0x50]
  | .tst dst => encRmw 0x6D dst
  | .tsta => [0x4D]
  | .tstb => [0x5D]
  | .mul => [0x3D]
  | .idiv => [0x02]
  | .fdiv => [0x03]
  | .anda src => encSrc8 0x84 src
  | .andb src => encSrc8 0xC4 src
  | .bita src => encSrc8 0x85 src
  | .bitb src => encSrc8 0xC5 src
  | .eora src => encSrc8 0x88 src
  | .eorb src => encSrc8 0xC8 src
  | .oraa src => encSrc8 0x8A src
  | .orab src => encSrc8 0xCA src
  | .com dst => encRmw 0x63 dst
  | .coma => [0x43]
  | .comb => [0x53]
  | .bset dst mm => encBit 0x14 0x1C [mm] dst
  | .bclr dst mm => encBit 0x15 0x1D [mm] dst
  | .asl dst => encRmw 0x68 dst
  | .asla => [0x48]
  | .aslb => [0x58]
  | .asld => [0x05]
  | .asr dst => encRmw 0x67 dst
  | .asra => [0x47]
  | .asrb => [0x57]
  | .lsr dst => encRmw 0x64 dst
  | .lsra => [0x44]
  | .lsrb => [0x54]
  | .lsrd => [0x04]
  | .rol dst => encRmw 0x69 dst
  | .rola => [0x49]
  | .rolb => [0x59]
  | .ror dst => encRmw 0x66 dst
  | .rora => [0x46]
  | .rorb => [0x56]
  | .bra rr => [0x20, rr]
  | .brn rr => [0x21, rr]
  | .bcc rr => [0x24, rr]
  | .bcs rr => [0x25, rr]
  | .beq rr => [0x27, rr]
  | .bne rr => [0x26, rr]
  | .bmi rr => [0x2B, rr]
  | .bpl rr => [0x2A, rr]
  | .bvs rr => [0x29, rr]
  | .bvc rr => [0x28, rr]
  | .bge rr => [0x2C, rr]
  | .bgt rr => [0x2E, rr]
  | .ble rr => [0x2F, rr]
  | .blt rr => [0x2D, rr]
  | .bhi rr => [0x22, rr]
  | .bls rr => [0x23, rr]
  | .brset src mm rr => encBit 0x12 0x1E [mm, rr] src
  | .brclr src mm rr => encBit 0x13 0x1F [mm, rr] src
  | .bsr rr => [0x8D, rr]
  | .jmp dst => encRmw 0x6E dst
  | .jsr dst => encMem [] [] [0x18] 0x9D dst
  | .rts => [0x39]
  | .clc => [0x0C]
  | .cli => [0x0E]
  | .clv => [0x0A]
  | .sec => [0x0D]
  | .sei => [0x0F]
  | .sev => [0x0B]
  | .nop => [0x01]
  | .rti => [0x3B]
  | .swi => [0x3F]
  | .wai => [0x3E]
  | .stop => [0xCF]
  | .test => [0x00]

/-! ### Table words -/

/-- `n` bytes of `w`, the least significant first. -/
def lowBytes : Nat → Nat → List Byte
  | 0, _ => []
  | n + 1, w => BitVec.ofNat 8 w :: lowBytes n (w / 256)

/-- The bytes, in address order, of a table word of `nbits` bits (assumption log 32): the numbering of
30 R191, the first byte most significant, where that is an instruction of exactly this length; else the
first byte in bits 7 to 0, the second in bits 15 to 8 and so on. -/
def tableBytes (nbits w : Nat) : List Byte :=
  let bytes := (lowBytes (nbits / 8) w).reverse
  match decode bytes with
  | .ok (_, []) => bytes
  | _ => bytes.reverse

/-- The instruction the decoder reads from a table word; the operand bytes above `nbits` are zero. -/
def decodeTableWord (nbits w : Nat) : Option Instr :=
  match decode (tableBytes nbits w ++ [0, 0, 0, 0]) with
  | .ok (i, _) => some i
  | .error _ => none

end Sys2Proof
end

