-- ==== Sys2Proof/Machine/Fetch.lean ====
section
/-! DEFINITION.
Fetching the bytes of one instruction (00_scope R14, 30_encoding R171): each byte is an ordinary read at
PC, and PC passes it.
-/

namespace Sys2Proof.Machine

/-- `Fetch8` (00 R14). -/
def fetch8 (s : State) : Byte × State :=
  let r := readByte s.pc s
  (r.1, { r.2 with pc := r.2.pc + 1 })

/-- Fetch `n` bytes in address order. -/
def fetchBytes : Nat → State → List Byte × State
  | 0, s => ([], s)
  | n + 1, s =>
    let b := fetch8 s
    let r := fetchBytes n b.2
    (b.1 :: r.1, r.2)

/-- Fetch an opcode's operand bytes; none of an unassigned opcode (30 R171, R184). -/
def fetchOperands (page : Page) (op : Byte) (s : State) : List Byte × State :=
  match lookup page op with
  | some sh => fetchBytes sh.operands s
  | none => ([], s)

/-- Fetch one instruction: prebyte, opcode and operands as the first bytes tell (30 R171). -/
def fetch (s : State) : List Byte × State :=
  let b := fetch8 s
  match prebyte? b.1 with
  | none =>
    let r := fetchOperands .p1 b.1 b.2
    (b.1 :: r.1, r.2)
  | some page =>
    let op := fetch8 b.2
    let r := fetchOperands page op.1 op.2
    (b.1 :: op.1 :: r.1, r.2)

end Sys2Proof.Machine
end

