-- ==== Sys2Proof/Machine/Interrupts.lean ====
section
/-! DEFINITION.
Interrupt requests, their priority, recognition and entry (60_exceptions R421, R430 to R436), and the end
of a wait or a stop (45_ccr_system R411, R413).
-/

namespace Sys2Proof.Machine

/-- The sources masked by the I bit, in the order of the vector table, highest address first (60 R421,
R434). -/
inductive Source where
  | irq | rti | ic1 | ic2 | ic3 | oc1 | oc2 | oc3 | oc4 | i4o5 | tof | paov | pai | spi | sci
deriving DecidableEq, Repr

/-- All of them, by descending priority (60 R434). -/
def Source.all : List Source :=
  [.irq, .rti, .ic1, .ic2, .ic3, .oc1, .oc2, .oc3, .oc4, .i4o5, .tof, .paov, .pai, .spi, .sci]

/-- The vector of a source (60 R421). -/
def Source.vector : Source → Word
  | .irq => 0xFFF2
  | .rti => 0xFFF0
  | .ic1 => 0xFFEE
  | .ic2 => 0xFFEC
  | .ic3 => 0xFFEA
  | .oc1 => 0xFFE8
  | .oc2 => 0xFFE6
  | .oc3 => 0xFFE4
  | .oc4 => 0xFFE2
  | .i4o5 => 0xFFE0
  | .tof => 0xFFDE
  | .paov => 0xFFDC
  | .pai => 0xFFDA
  | .spi => 0xFFD8
  | .sci => 0xFFD6

/-- The IRQ request: the pin low, or the edge latch where IRQE = 1 (60 R431). -/
def irqRequested (s : State) : Bool := if bit s.sys.option 5 then s.irqEdge else !s.env.pins.irq

/-- The source is requesting: its flag and its local mask are both 1 (60 R430). -/
def requests (s : State) : Source → Bool
  | .irq => irqRequested s
  | .rti => bit s.timer.tflg2 6 && bit s.timer.tmsk2 6
  | .ic1 => bit s.timer.tflg1 2 && bit s.timer.tmsk1 2
  | .ic2 => bit s.timer.tflg1 1 && bit s.timer.tmsk1 1
  | .ic3 => bit s.timer.tflg1 0 && bit s.timer.tmsk1 0
  | .oc1 => bit s.timer.tflg1 7 && bit s.timer.tmsk1 7
  | .oc2 => bit s.timer.tflg1 6 && bit s.timer.tmsk1 6
  | .oc3 => bit s.timer.tflg1 5 && bit s.timer.tmsk1 5
  | .oc4 => bit s.timer.tflg1 4 && bit s.timer.tmsk1 4
  | .i4o5 => bit s.timer.tflg1 3 && bit s.timer.tmsk1 3
  | .tof => bit s.timer.tflg2 7 && bit s.timer.tmsk2 7
  | .paov => bit s.timer.tflg2 5 && bit s.timer.tmsk2 5
  | .pai => bit s.timer.tflg2 4 && bit s.timer.tmsk2 4
  | .spi => (bit s.spi.spsr 7 || bit s.spi.spsr 4) && bit s.spi.spcr 7
  | .sci =>
    (bit s.sci.scsr 7 && bit s.sci.sccr2 7) || (bit s.sci.scsr 6 && bit s.sci.sccr2 6) ||
      ((bit s.sci.scsr 5 || bit s.sci.scsr 3) && bit s.sci.sccr2 5) ||
      (bit s.sci.scsr 4 && bit s.sci.sccr2 4)

/-- The source PSEL promotes; %0101 defaults to IRQ (60 R433). -/
def promoted (s : State) : Source :=
  match s.sys.hprio.toNat % 16 with
  | 0 => .tof
  | 1 => .paov
  | 2 => .pai
  | 3 => .spi
  | 4 => .sci
  | 7 => .rti
  | 8 => .ic1
  | 9 => .ic2
  | 10 => .ic3
  | 11 => .oc1
  | 12 => .oc2
  | 13 => .oc3
  | 14 => .oc4
  | 15 => .i4o5
  | _ => .irq

/-- The first requesting source: the promoted one, then the order of the table (60 R434). -/
def firstRequest (s : State) : Option Source := (promoted s :: Source.all).find? (requests s)

/-- What recognition finds. -/
inductive Request where
  | xirq
  | source (src : Source)
deriving DecidableEq, Repr

/-- Recognition at a boundary (60 R436): XIRQ where X = 0; else, where I = 0 and no CLI or TAP has just
cleared it, the first requesting source. -/
def recognise (s : State) : Option Request :=
  if !s.ccr.x && !s.env.pins.xirq then some .xirq
  else if !s.ccr.i && !s.inhibit then (firstRequest s).map .source
  else none

/-- The vector of a request (60 R421). -/
def Request.vector : Request → Word
  | .xirq => 0xFFF4
  | .source src => src.vector

/-- Only an XIRQ entry sets X (60 R436). -/
def Request.setsX : Request → Bool
  | .xirq => true
  | .source _ => false

/-- Fetching the IRQ vector clears the edge latch (60 R431). -/
def acknowledge (r : Request) (s : State) : State :=
  match r with
  | .source .irq => { s with irqEdge := false }
  | _ => s

/-- An interrupt entry: stack, mask, vector (60 R440). -/
def takeInterrupt (r : Request) (s : State) : State := acknowledge r (enter r.vector r.setsX s)

/-- A wait ends: the registers are stacked already; mask, vector, run (45 R411). -/
def endWait (r : Request) (s : State) : State :=
  acknowledge r { vectorTo r.vector r.setsX s with run := .running }

/-- What ends a stop: XIRQ low, with an entry only where X = 0, or IRQ where I = 0 (45 R413). -/
inductive StopExit where
  | stay
  | resume
  | interrupt (r : Request)
deriving DecidableEq, Repr

/-- What the pins ask of a stopped machine (45 R413). DESIGN CHOICE (assumption log 15): where XIRQ is low
with X = 1 and IRQ requests with I = 0, the spec does not say which exit applies; XIRQ's comes first, no
entry in this step, and IRQ is looked at again at the next boundary. Nor does it say what a falling edge does that
IRQE = 1 latched before STOP; it is still a request, and with I = 0 it ends the stop at once. -/
def stopExit (s : State) : StopExit :=
  if !s.env.pins.xirq then (if s.ccr.x then .resume else .interrupt .xirq)
  else if !s.ccr.i && irqRequested s then .interrupt (.source .irq)
  else .stay

end Sys2Proof.Machine
end

