-- ==== Sys2Proof/Machine/Reset.lean ====
section
/-! DEFINITION.
Taking a reset (70_reset_and_hazards R520 to R527). Registers the spec gives no value take free values
(assumption logs 1, 3); TIC1 to TIC3 are "not affected by reset".
-/

namespace Sys2Proof.Machine

/-- The causes of a reset, by descending priority (70 R521). -/
inductive ResetCause where
  | pin | clockMonitor | cop
deriving DecidableEq, Repr

/-- The reset that is due, if any: the pin low, a clock monitor failure, a COP failure (70 R520, R521). -/
def resetCause (s : State) : Option ResetCause :=
  if !s.env.pins.reset then some .pin
  else if s.clockFail then some .clockMonitor
  else if s.copFail then some .cop
  else none

/-- The vector of a reset cause (70 R521). -/
def ResetCause.vector : ResetCause → Word
  | .pin => 0xFFFE
  | .clockMonitor => 0xFFFC
  | .cop => 0xFFFA

/-- The mode that the pins MODB, MODA select (10 R84). -/
def modeOfPins (modb moda : Bool) : OpMode :=
  match modb, moda with
  | true, false => .singleChip
  | true, true => .expanded
  | false, false => .bootstrap
  | false, true => .specialTest

/-- HPRIO after reset in each mode (10 R84). -/
def OpMode.hprio : OpMode → Byte
  | .singleChip => 0x06
  | .expanded => 0x26
  | .bootstrap => 0xC6
  | .specialTest => 0x66

/-- CSCTL after reset: PCSEN 0 in single-chip, 1 in expanded mode, open in the special modes (10 R90). -/
def OpMode.csctl (pcsen : Byte) : OpMode → Byte
  | .singleChip => 0x00
  | .expanded => 0x04
  | _ => pcsen &&& 0x04

/-- The CPU registers after a reset: S, X and I set, the rest open (70 R523). -/
def resetCpu (s : State) : State :=
  let byte (k : Nat) := Config.freeByte (s.draws + k)
  let word (k : Nat) := Config.freeWord (s.draws + k)
  let flag (k : Nat) := Config.freeBit (s.draws + k)
  { s with
    a := byte 0, b := byte 1, ix := word 2, iy := word 3, sp := word 4
    ccr := { s := true, x := true, h := flag 5, i := true,
             n := flag 6, z := flag 7, v := flag 8, c := flag 9 }
    run := .running, inhibit := false, draws := s.draws + 10 }

/-- The reset leaves MDA set, so that the pins of ports B, F and C carry the external bus (10 R84). -/
def OpMode.hasBus : OpMode → Bool
  | .expanded | .specialTest => true
  | _ => false

/-- Ports and timer after a reset (70 R522). DESIGN CHOICE (assumption logs 3, 21): for a reset that leaves the
bus on the pins the spec prints no value of the latches PORTB and PORTC (10 R45, R47: $00 in single-chip and
bootstrap mode, "address bus" and "data bus" otherwise), and they take free values, which show once MDA is
cleared; PORTF is 0 in every mode (10 R46). -/
def resetPortsTimer (s : State) : State :=
  let latch (k : Nat) : Byte := if s.mode.hasBus then Config.freeByte (s.draws + k) else 0
  { s with
    ports := { State.reset.ports with b := latch 1, c := latch 2 }
    timer := { State.reset.timer with
      tic1 := s.timer.tic1, tic2 := s.timer.tic2, tic3 := s.timer.tic3
      pacnt := Config.freeByte s.draws }
    draws := s.draws + 3 }

/-- Serial interfaces and converter after a reset: idle, buffers empty (70 R522, R525). -/
def resetSerial (s : State) : State :=
  let byte (k : Nat) := Config.freeByte (s.draws + k)
  { s with
    spi := { State.reset.spi with
      spcr := 0x04 ||| (byte 0 &&& 0x03), rdBuf := byte 1, shift := byte 2 }
    sci := { State.reset.sci with baud := byte 3 &&& 0x07, rdr := byte 4, tdr := byte 5 }
    adc := { State.reset.adc with
      adctl := byte 6 &&& 0xBF, adr1 := byte 7, adr2 := byte 8, adr3 := byte 9, adr4 := byte 10 }
    draws := s.draws + 11 }

/-- Mode, mapping, configuration and hidden state after a reset: CONFIG is reloaded from its cells, the
EEPROM keeps its contents, the RAM holds any value (70 R522 to R525). DESIGN CHOICE (assumption log 27):
the spec does not say what a program or erase command under way (EEPGM = 1) does when a reset clears PPROG;
the command is dropped, array and CONFIG cells unchanged. -/
def resetSystem (s : State) : State :=
  { s with
    ee := State.reset.ee
    sys := { State.reset.sys with
      hprio := s.mode.hprio
      csctl := s.mode.csctl (Config.freeByte s.draws)
      config := s.sys.configCells ||| 0x0A
      configCells := s.sys.configCells }
    cop := State.reset.cop
    irqEdge := false, clockFail := false, copFail := false, cycles := 0
    mem := { s.mem with ram := [] }
    ramEpoch := s.ramEpoch + 1, draws := s.draws + 1 }

/-- Everything a reset does before the vector fetch: the mode is latched from the pins on a pin reset
only (70 R520, 60 R451). -/
def resetState (cause : ResetCause) (s : State) : State :=
  let mode := match cause with
    | .pin => modeOfPins s.env.pins.modb s.env.pins.moda
    | _ => s.mode
  resetSystem (resetSerial (resetPortsTimer (resetCpu { s with mode := mode })))

/-- Take a reset: nothing is stacked, PC comes from the vector through the map as just reset, and the two
cycles of that fetch are owed to the devices (70 R520, R530). -/
def takeReset (cause : ResetCause) (s : State) : State :=
  let s := { resetState cause s with owed := 0 }
  let r := read16 (vectorAddr s cause.vector) s
  { r.2 with pc := r.1, owed := r.2.owed + Config.vectorCycles }

end Sys2Proof.Machine
end

