-- ==== Sys2Proof/Machine/Timing.lean ====
section
/-! DEFINITION.
The E cycles of each encoding (30_encoding R189, 70_reset_and_hazards R540). WAI counts its first phase,
12 cycles (45 R410); TEST where it traps counts an exception entry, 14.
-/

namespace Sys2Proof.Machine

/-- The cycles of a memory operand form: DIR, EXT, IND,X, IND,Y. -/
def formCycles (d e x y : Nat) : MemOp → Nat
  | .dir _ => d
  | .ext _ => e
  | .indX _ => x
  | .indY _ => y

/-- The cycles of an 8-bit source: 2 immediate, 3 direct, 4 extended or IND,X, 5 IND,Y. -/
def src8Cycles : Src8 → Nat
  | .imm _ => 2
  | .mem m => formCycles 3 4 4 5 m

/-- The cycles of a 16-bit source. -/
def src16Cycles (i d e x y : Nat) : Src16 → Nat
  | .imm _ => i
  | .mem m => formCycles d e x y m

/-- The cycles of an instruction (30 R189). -/
def cycles : Instr → Nat
  | .ldaa src | .ldab src | .adca src | .adcb src | .adda src | .addb src | .sbca src | .sbcb src
  | .suba src | .subb src | .cmpa src | .cmpb src | .anda src | .andb src | .bita src | .bitb src
  | .eora src | .eorb src | .oraa src | .orab src => src8Cycles src
  | .ldd src | .lds src | .ldx src => src16Cycles 3 4 5 5 6 src
  | .ldy src => src16Cycles 4 5 6 6 6 src
  | .staa dst | .stab dst => formCycles 3 4 4 5 dst
  | .std dst | .sts dst | .stx dst => formCycles 4 5 5 6 dst
  | .sty dst => formCycles 5 6 6 6 dst
  | .tap | .tpa | .tab | .tba | .clra | .clrb | .aba | .sba | .cba | .daa | .deca | .decb | .inca
  | .incb | .nega | .negb | .tsta | .tstb | .coma | .comb | .asla | .aslb | .asra | .asrb | .lsra
  | .lsrb | .rola | .rolb | .rora | .rorb | .clc | .cli | .clv | .sec | .sei | .sev | .nop
  | .stop => 2
  | .tsx | .txs | .xgdx | .psha | .pshb | .abx | .des | .dex | .ins | .inx | .asld | .lsrd => 3
  | .tsy | .tys | .xgdy | .pshx | .pula | .pulb | .aby | .dey | .iny => 4
  | .pshy | .pulx | .rts => 5
  | .puly => 6
  | .clr dst | .dec dst | .inc dst | .neg dst | .tst dst | .com dst | .asl dst | .asr dst | .lsr dst
  | .rol dst | .ror dst => formCycles 6 6 6 7 dst
  | .addd src | .subd src | .cpx src => src16Cycles 4 5 6 6 7 src
  | .cpd src | .cpy src => src16Cycles 5 6 7 7 7 src
  | .mul => 10
  | .idiv | .fdiv => 41
  | .bset dst _ | .bclr dst _ => formCycles 6 6 7 8 dst
  | .bra _ | .brn _ | .bcc _ | .bcs _ | .beq _ | .bne _ | .bmi _ | .bpl _ | .bvs _ | .bvc _ | .bge _
  | .bgt _ | .ble _ | .blt _ | .bhi _ | .bls _ => 3
  | .brset src _ _ | .brclr src _ _ => formCycles 6 6 7 8 src
  | .bsr _ => 6
  | .jmp dst => formCycles 3 3 3 4 dst
  | .jsr dst => formCycles 5 6 6 7 dst
  | .rti | .wai => 12
  | .swi | .test => 14

end Sys2Proof.Machine
end

