-- ==== Sys2Proof/Machine/Step.lean ====
section
/-! DEFINITION.
One step of the machine (00_scope R18): a reset if one is due, else one cycle of a wait, a stop or TEST,
else an interrupt entry, else one instruction.
-/

namespace Sys2Proof.Machine

/-- Take the reset that is due; else go on (70 R520). -/
def unlessReset (s : State) (k : State → Result) : Result :=
  match resetCause s with
  | some c => .next (takeReset c s)
  | none => k s

/-- Let `n` cycles pass, then do `k`; a reset that falls due in them takes its place (60 R423, 70 R520). -/
def afterCycles (n : Nat) (s : State) (k : State → Result) : Result := unlessReset (spend n s) k

/-- Fetch, decode and run one instruction (30 R171); an unassigned opcode is the illegal opcode trap
(30 R183, R184). -/
def runInstruction (s : State) : Result :=
  let f := fetch s
  match decode f.1 with
  | .ok (i, _) => afterCycles (cycles i) f.2 (exec i)
  | .error _ => afterCycles Config.entryCycles f.2 fun t => .next (illegalTrap s.pc t)

/-- A running CPU: recognition, then an instruction (60 R436). -/
def stepRunning (s : State) : Result :=
  match recognise s with
  | some r =>
    afterCycles Config.entryCycles { s with inhibit := false } fun t => .next (takeInterrupt r t)
  | none => runInstruction { s with inhibit := false }

/-- A waiting CPU: recognition at each cycle (45 R411). -/
def stepWaiting (s : State) : Result :=
  match recognise s with
  | some r => afterCycles Config.vectorCycles { s with inhibit := false } fun t => .next (endWait r t)
  | none => .next (advance 1 { s with inhibit := false })

/-- The start-up delay that OPTION.DLY inserts on the exit from STOP (10 R81, 45 R413, 60 R454). -/
def State.exitDelay (s : State) : Nat := if bit s.sys.option 4 then Config.stopDelay else 0

/-- The clocks start again; the cycles of the start-up delay are owed to the devices, which count them before
the CPU goes on (45 R413). -/
def restart (s : State) : State := { s with run := .running, owed := s.owed + s.exitDelay }

/-- A stopped CPU: only the pins restart it (45 R413). -/
def stepStopped (s : State) : Result :=
  match stopExit s with
  | .stay => .next s
  | .resume => .next (restart s)
  | .interrupt r =>
    afterCycles Config.entryCycles { restart s with inhibit := false }
      fun t => .next (takeInterrupt r t)

/-- One step (00 R18). -/
def step (s : State) : Host.Outcome State Fault Refusal :=
  unlessReset (boundary s) fun t =>
    match t.run with
    | .running => stepRunning t
    | .waiting => stepWaiting t
    | .stopped => stepStopped t
    | .testing => .next (advance 1 t)

/-- Store the bytes at consecutive addresses from `a`, in whatever array the map selects, as a loader
does from outside (assumption log 31). -/
def placeBytes (a : Word) : List Byte → State → State
  | [], s => s
  | v :: vs, s =>
    let s := match resolve s a with
      | .mem r off => { s with mem := s.mem.put r off v }
      | _ => s
    placeBytes (a + 1) vs s

/-- The state with a table word's instruction, padded with zeros to five bytes, where the next
instruction is fetched (assumption log 31). -/
def State.withFetchWord (s : State) (nbits w : Nat) : State :=
  placeBytes s.pc ((tableBytes nbits w ++ [0, 0, 0, 0, 0]).take 5) s

end Sys2Proof.Machine
end

