-- ==== Sys2Proof/Safety.lean ====
section
/-! DEFINITION.
The terms claims are stated in: a read of one byte without its side effects, what it means that memory is
unchanged, and the invariant of the machine.
-/

namespace Sys2Proof.Machine

/-! ### Looking at memory -/

/-- The byte a read of an address answers, where the state determines it: none where the spec leaves the
value open. Looking has no side effect. -/
def peek (s : State) (a : Word) : Option Byte :=
  match resolve s a with
  | .reg off => if (regValue s off).2 = 0 then some (regValue s off).1 else none
  | .mem .ram off => some ((s.mem.get .ram off).getD (Config.ramInit s.ramEpoch off))
  | .mem .boot off => some ((s.mem.get .boot off).getD (Config.bootRom off))
  | .mem .eeprom off => if s.eelat then none else s.mem.get .eeprom off
  | .mem .ext off => s.mem.get .ext off
  | .nothing => none

/-- The address selects a register of the block. -/
def isReg (s : State) (a : Word) : Bool :=
  match resolve s a with
  | .reg _ => true
  | _ => false

/-- The address selects a byte that keeps what is written to it: one of the RAM or of external memory. -/
def isCell (s : State) (a : Word) : Bool :=
  match resolve s a with
  | .mem .ram _ | .mem .ext _ => true
  | _ => false

/-- Every byte of memory outside the addresses `written` reads as before; the register block, which is no
memory, is left to claims about the units. -/
def memorySame (s t : State) (written : Word → Prop) : Prop :=
  ∀ a, ¬ written a → isReg s a = false → isReg t a = false ∧ peek t a = peek s a

/-- No address. -/
def nowhere : Word → Prop := fun _ => False

/-- The devices and chip-wide state that neither a read nor an access to memory can change. -/
def devicesSame (s t : State) : Prop :=
  t.ports = s.ports ∧ t.timer = s.timer ∧ t.adc = s.adc ∧ t.sys = s.sys ∧ t.cop = s.cop ∧
  t.ee.bprot = s.ee.bprot ∧ t.ee.pprog = s.ee.pprog ∧
  t.irqEdge = s.irqEdge ∧ t.clockFail = s.clockFail ∧ t.copFail = s.copFail ∧ t.mode = s.mode ∧
  t.cycles = s.cycles ∧ t.env = s.env ∧ t.ramEpoch = s.ramEpoch

/-- The serial units, too. -/
def serialSame (s t : State) : Prop := t.sci = s.sci ∧ t.spi = s.spi

/-! ### What an instruction does, in the terms of the claims -/

/-- The CPU registers but CCR, with the run state and the inhibition of one boundary. -/
structure Regs where
  a : Byte
  b : Byte
  ix : Word
  iy : Word
  sp : Word
  pc : Word
  run : RunState
  inhibit : Bool
deriving DecidableEq, Repr

/-- The CPU registers of a state. -/
def regs (s : State) : Regs :=
  { a := s.a, b := s.b, ix := s.ix, iy := s.iy, sp := s.sp, pc := s.pc, run := s.run,
    inhibit := s.inhibit }

/-- Registers with an accumulator written. -/
def Regs.withAcc (g : Regs) (r : Acc) (v : Byte) : Regs :=
  match r with
  | .a => { g with a := v }
  | .b => { g with b := v }

/-- Registers with a 16-bit register written; D is A:B (10 R21). -/
def Regs.withWide (g : Regs) (r : Reg16) (v : Word) : Regs :=
  match r with
  | .d => { g with a := hi8 v, b := lo8 v }
  | .x => { g with ix := v }
  | .y => { g with iy := v }
  | .sp => { g with sp := v }

/-- The instruction completes: `exec` answers a next state, and `P` holds of it. -/
def completes (i : Instr) (s : State) (P : State → Prop) : Prop := ∃ t, exec i s = .next t ∧ P t

/-- Nothing but CPU registers changed, and the serial units only where a register was read. -/
def onlyRead (s t : State) (reg : Bool) : Prop :=
  memorySame s t nowhere ∧ devicesSame s t ∧ t.ee = s.ee ∧ (reg = false → serialSame s t)

end Sys2Proof.Machine

namespace Sys2Proof

open Machine

/-- The 8-bit additions, the only instructions that compute H (10 R28, 41 R250). -/
def Instr.addsBytes : Instr → Bool
  | .aba | .adca _ | .adcb _ | .adda _ | .addb _ => true
  | _ => false

/-- The operand is read from the register block. -/
def Src8.reg (s : State) : Src8 → Bool
  | .imm _ => false
  | .mem m => isReg s (ea m s)

/-- A byte of the operand is read from the register block. -/
def Src16.reg (s : State) : Src16 → Bool
  | .imm _ => false
  | .mem m => isReg s (ea m s) || isReg s (ea m s + 1)

end Sys2Proof

namespace Sys2Proof.Machine

/-- The next state has these registers and flags, and nothing else was written. -/
def becomes (s t : State) (g : Regs) (c : Ccr) (reg : Bool) : Prop :=
  regs t = g ∧ t.ccr = c ∧ onlyRead s t reg

/-- Everything but the CPU registers, CCR, the run state and the inhibition is in `t` as it is in `u`: memory,
every unit, every register of the block, the environment and what is owed and drawn. -/
def restAs (u t : State) : Prop :=
  t = { u with a := t.a, b := t.b, ix := t.ix, iy := t.iy, sp := t.sp, pc := t.pc, ccr := t.ccr,
               run := t.run, inhibit := t.inhibit }

/-- The next state has these registers and flags, and is else what reading the 8-bit operand left. -/
def becomes8 (src : Src8) (s t : State) (g : Regs) (c : Ccr) : Prop :=
  becomes s t g c (src.reg s) ∧ restAs (operand8 src s).2 t

/-- The next state has these registers and flags, and is else what reading the 16-bit operand left. -/
def becomes16 (src : Src16) (s t : State) (g : Regs) (c : Ccr) : Prop :=
  becomes s t g c (src.reg s) ∧ restAs (operand16 src s).2 t

/-- The cells of every array that no target of `touched` names are unchanged, and those of the EEPROM
unless PPROG is written: what can be said of a store whichever unit it goes to. -/
def cellsSame (s t : State) (touched : Target → Prop) : Prop :=
  ∀ r off, ¬ touched (.mem r off) → (r = .eeprom → ¬ touched (.reg 0x3B)) →
    t.mem.get r off = s.mem.get r off

/-- The byte `v` stands at `a`, where a byte can, and nothing was stored elsewhere. -/
def landed (a : Word) (v : Byte) (s t : State) : Prop :=
  cellsSame s t (· = resolve s a) ∧
  (isReg s a = false → memorySame s t (· = a) ∧ devicesSame s t ∧ serialSame s t) ∧
  (isCell s a = true → peek t a = some v)

/-- The byte `v` has been written to `a`, whatever unit is there, and nothing was stored elsewhere. -/
def storedAt (a : Word) (v : Byte) (s t : State) : Prop :=
  restAs (writeByte a v s) t ∧ landed a v s t

/-- The byte at `a` has been read and `v` written to it, whatever unit is there, and nothing was stored
elsewhere (20 R151). -/
def modifiedAt (a : Word) (v : Byte) (s t : State) : Prop :=
  restAs (writeByte a v (readByte a s).2) t ∧ landed a v s t

/-- The word `v` has been written to `a` and `a + 1`, high byte first, and nothing stored elsewhere. -/
def stored16At (a v : Word) (s t : State) : Prop :=
  restAs (writeByte (a + 1) (lo8 v) (writeByte a (hi8 v) s)) t ∧
  cellsSame s t (fun g => g = resolve s a ∨ g = resolve (writeByte a (hi8 v) s) (a + 1)) ∧
  (isReg s a = false → isReg s (a + 1) = false →
    memorySame s t (fun x => x = a ∨ x = a + 1) ∧ devicesSame s t ∧ serialSame s t) ∧
  (isCell s a = true → isCell s (a + 1) = true →
    peek t a = some (hi8 v) ∧ peek t (a + 1) = some (lo8 v))

/-- The word `v` has been pushed at `sp`: low byte at `sp`, high byte below it (00 R15). -/
def pushed16At (sp v : Word) (s t : State) : Prop :=
  restAs (writeByte (sp - 1) (hi8 v) (writeByte sp (lo8 v) s)) t ∧
  cellsSame s t (fun g => g = resolve s sp ∨ g = resolve (writeByte sp (lo8 v) s) (sp - 1)) ∧
  (isReg s sp = false → isReg s (sp - 1) = false →
    memorySame s t (fun x => x = sp ∨ x = sp - 1) ∧ devicesSame s t ∧ serialSame s t) ∧
  (isCell s sp = true → isCell s (sp - 1) = true →
    peek t sp = some (lo8 v) ∧ peek t (sp - 1) = some (hi8 v))

/-- The bytes of an exception frame, from the highest address down (60 R441). -/
def frameBytes (s : State) : List Byte :=
  [lo8 s.pc, hi8 s.pc, lo8 s.iy, hi8 s.iy, lo8 s.ix, hi8 s.ix, s.a, s.b, s.ccr.toByte]

/-- The addresses of an exception frame (60 R441). -/
def inFrame (sp a : Word) : Prop := ∃ k : Nat, k < 9 ∧ a = sp - BitVec.ofNat 16 k

/-- The exception frame has been written below `s.sp` and nothing else, where no address of it is a
register; where it is in RAM or external memory its bytes are those of 60 R441. -/
def framed (s t : State) : Prop :=
  ((∀ a, inFrame s.sp a → isReg s a = false) →
    memorySame s t (inFrame s.sp) ∧ devicesSame s t ∧ serialSame s t) ∧
  ((∀ a, inFrame s.sp a → isCell s a = true) →
    ∀ k : Nat, k < 9 → peek t (s.sp - BitVec.ofNat 16 k) = (frameBytes s)[k]?)

/-- The request has been taken from `t` through the vector at `w`: nine bytes stacked and nothing else
stored, SP lowered by 9 and no other register written but PC, I set, X set for XIRQ only, the edge latch
cleared for IRQ only, running at the vector's address (60 R431, R440, R441). -/
def interrupted (r : Request) (w : Word) (t u : State) : Prop :=
  regs u = { regs t with sp := t.sp - 9, pc := u.pc, run := .running, inhibit := false } ∧
  u.ccr = { t.ccr with i := true, x := t.ccr.x || decide (r = .xirq) } ∧
  u.irqEdge = (t.irqEdge && decide (r ≠ .source .irq)) ∧
  framed t { u with irqEdge := t.irqEdge } ∧
  ∀ h l, (∀ a, inFrame t.sp a → isReg t a = false) → ¬ inFrame t.sp w → ¬ inFrame t.sp (w + 1) →
    peek t w = some h → peek t (w + 1) = some l → u.pc = mk16 h l

/-- `t` is what a reset of cause `c` makes of `s`: S, X and I set, running, EEPROM and external memory kept, the
mode of the pins on a pin reset and the old one on the others, PC from the vector of the cause (70 R520, R521,
R523, R524). -/
def wasReset (c : ResetCause) (s t : State) : Prop :=
  t.ccr.s = true ∧ t.ccr.x = true ∧ t.ccr.i = true ∧ t.run = .running ∧
  t.mem.eeprom = s.mem.eeprom ∧ t.mem.ext = s.mem.ext ∧
  (c = .pin → t.mode = modeOfPins s.env.pins.modb s.env.pins.moda) ∧
  (c ≠ .pin → t.mode = s.mode) ∧ t.sys.hprio = t.mode.hprio ∧
  ∀ (v w : Word) (h l : Byte),
    (c, v) ∈ [(ResetCause.pin, 0xFFFE#16), (.clockMonitor, 0xFFFC), (.cop, 0xFFFA)] →
    w = (if t.smod then v - 0x4000 else v) → peek t w = some h → peek t (w + 1) = some l → t.pc = mk16 h l

/-! ### Flags as facts about integers -/

/-- N and Z of an 8-bit value, V cleared (00 R16, 40 R200). -/
def valueFlags8 (c : Ccr) (v : Byte) : Ccr :=
  { c with n := decide (128 ≤ v.toNat), z := decide (v.toNat = 0), v := false }

/-- N and Z of a 16-bit value, V cleared (00 R16, 40 R200). -/
def valueFlags16 (c : Ccr) (v : Word) : Ccr :=
  { c with n := decide (32768 ≤ v.toNat), z := decide (v.toNat = 0), v := false }

/-- The sum of an 8-bit addition. -/
def sum8 (x y : Byte) (cin : Bool) : Nat := x.toNat + y.toNat + cin.toNat

/-- The flags of an 8-bit addition: C the unsigned, V the signed overflow, H the carry of the low digits
(41 R250). -/
def sumFlags8 (c : Ccr) (x y : Byte) (cin : Bool) : Ccr :=
  { c with
    h := decide (16 ≤ x.toNat % 16 + y.toNat % 16 + cin.toNat)
    n := decide (128 ≤ sum8 x y cin % 256)
    z := decide (sum8 x y cin % 256 = 0)
    v := decide (x.toInt + y.toInt + cin.toNat < -128 ∨ 127 < x.toInt + y.toInt + cin.toNat)
    c := decide (256 ≤ sum8 x y cin) }

/-- The difference of an 8-bit subtraction. -/
def diff8 (x y : Byte) (bin : Bool) : Int := x.toNat - y.toNat - bin.toNat

/-- The flags of an 8-bit subtraction: C the borrow, V the signed overflow (41 R251). -/
def diffFlags8 (c : Ccr) (x y : Byte) (bin : Bool) : Ccr :=
  { c with
    n := decide (128 ≤ diff8 x y bin % 256)
    z := decide (diff8 x y bin % 256 = 0)
    v := decide (x.toInt - y.toInt - bin.toNat < -128 ∨ 127 < x.toInt - y.toInt - bin.toNat)
    c := decide (diff8 x y bin < 0) }

/-- The flags of a 16-bit addition (41 R252). -/
def sumFlags16 (c : Ccr) (x y : Word) : Ccr :=
  { c with
    n := decide (32768 ≤ (x.toNat + y.toNat) % 65536)
    z := decide ((x.toNat + y.toNat) % 65536 = 0)
    v := decide (x.toInt + y.toInt < -32768 ∨ 32767 < x.toInt + y.toInt)
    c := decide (65536 ≤ x.toNat + y.toNat) }

/-- The flags of a 16-bit subtraction (41 R253). -/
def diffFlags16 (c : Ccr) (x y : Word) : Ccr :=
  { c with
    n := decide (32768 ≤ ((x.toNat : Int) - y.toNat) % 65536)
    z := decide (x.toNat = y.toNat)
    v := decide (x.toInt - y.toInt < -32768 ∨ 32767 < x.toInt - y.toInt)
    c := decide (x.toNat < y.toNat) }

/-- The flags of a shift or rotate with 8-bit result `r` and bit `out` shifted out (43 R330). -/
def shiftFlags8 (c : Ccr) (r : Nat) (out : Bool) : Ccr :=
  { c with n := decide (128 ≤ r), z := decide (r = 0), v := decide (128 ≤ r) != out, c := out }

/-- The flags of a shift with 16-bit result `r` and bit `out` shifted out (43 R330). -/
def shiftFlags16 (c : Ccr) (r : Nat) (out : Bool) : Ccr :=
  { c with n := decide (32768 ≤ r), z := decide (r = 0), v := decide (32768 ≤ r) != out, c := out }

/-! ### The invariant -/

/-- Bits the spec says read 0 in the port registers (10 R43, R48). -/
def Ports.ok (p : Ports) : Prop := p.d &&& 0xC0 = 0 ∧ p.ddrd &&& 0xC0 = 0

/-- Bits the spec says read 0 in the timer's registers (10 R54, R55, R64, R65, R66), and the ranges of its
dividers (60 R470, R477). -/
def Timer.ok (t : Timer) : Prop :=
  t.oc1m &&& 0x07 = 0 ∧ t.oc1d &&& 0x07 = 0 ∧ t.tmsk2 &&& 0x0C = 0 ∧ t.tflg2 &&& 0x0F = 0 ∧
  t.pactl &&& 0x88 = 0 ∧ t.phase < 16 ∧ t.paPhase < 64

/-- Bits the spec says read 0 in the SCI's registers (10 R71, R72, R74). -/
def Sci.ok (s : Sci) : Prop := s.baud &&& 0xC8 = 0 ∧ s.sccr1 &&& 0x27 = 0 ∧ s.scsr &&& 0x01 = 0

/-- Bits the spec says read 0 in SPSR (10 R69). -/
def Spi.ok (s : Spi) : Prop := s.spsr &&& 0x2F = 0

/-- The bit the spec says reads 0 in ADCTL (10 R76), and the range of the conversion index. -/
def Adc.ok (d : Adc) : Prop := d.adctl &&& 0x40 = 0 ∧ d.idx < 4

/-- Bits the spec says read 0 in BPROT and PPROG (10 R78, R83), and the latched address in the array. -/
def EeCtl.ok (e : EeCtl) : Prop :=
  e.bprot &&& 0xE0 = 0 ∧ e.pprog &&& 0xE0 = 0 ∧
    ∀ off v, e.latch = some (.array off, v) → off < Config.eepromSize

/-- Bits the spec says read 0 or 1 (10 R80, R87, R91, R92), and RBOOT only with SMOD (10 R84, 20 R141). -/
def Sys.ok (y : Sys) : Prop :=
  y.opt2 &&& 0x1F = 0 ∧ y.config &&& 0x0A = 0x0A ∧ y.csgadr &&& 0x03 = 0 ∧ y.csgsiz &&& 0x20 = 0 ∧
    (bit y.hprio 7 = true → bit y.hprio 6 = true)

/-- The invariant: every memory array is in canonical form, every bit the spec fixes reads as fixed, the
bootstrap ROM is in the map only in a special mode. -/
structure State.Inv (s : State) : Prop where
  mem : s.mem.wf = true
  ports : s.ports.ok
  timer : s.timer.ok
  sci : s.sci.ok
  spi : s.spi.ok
  adc : s.adc.ok
  ee : s.ee.ok
  sys : s.sys.ok

end Sys2Proof.Machine
end

