-- ==== Sys2Proof/WellFormed.lean ====
section
/-! DEFINITION.
Which terms of the syntax have an encoding (30_encoding R189): the read-modify-write instructions and JMP
have no DIR form, the bit-manipulation instructions no EXT form (30 R182). Every other form of every
operand exists.
-/

namespace Sys2Proof

/-- Not the DIR form. -/
def MemOp.notDir : MemOp → Bool
  | .dir _ => false
  | _ => true

/-- Not the EXT form. -/
def MemOp.notExt : MemOp → Bool
  | .ext _ => false
  | _ => true

/-- The instruction has an encoding (30 R189). -/
def Instr.wf : Instr → Bool
  | .clr dst
  | .dec dst
  | .inc dst
  | .neg dst
  | .tst dst
  | .com dst
  | .asl dst
  | .asr dst
  | .lsr dst
  | .rol dst
  | .ror dst
  | .jmp dst => dst.notDir
  | .bset dst _ | .bclr dst _ => dst.notExt
  | .brset src _ _ | .brclr src _ _ => src.notExt
  | _ => true

end Sys2Proof
end

