-- ==== Sys2Proof/Certificates/Slice0/Obligations.lean ====
section
/-! DEFINITION.
The statements about the machine. `completes i s P` says that `exec i s` answers a next state of which `P`
holds; the other terms are those of Sys2Proof/Safety.lean. Formulas for flags, the stack order and the
device protocols are what the spec supplies from general knowledge (assumption logs 12, 17 to 28): a
statement that rests on them has basis 'derived'.
-/

section

open Sys2Proof Sys2Proof.Machine

/-! ### Encoding -/

/-- Decoding the words of a well-formed instruction gives the instruction back (30 R171, R189). -/
def Obligations.DecodeEncode : Prop :=
  ∀ (i : Instr) (rest : List Byte), i.wf = true → decode (encode i ++ rest) = .ok (i, rest)

/-- Only its own words decode to an instruction, and only well-formed instructions are decoded
(30 R171, R189). -/
def Obligations.EncodeDecode : Prop :=
  ∀ (bs : List Byte) (i : Instr) (rest : List Byte),
    decode bs = .ok (i, rest) → i.wf = true ∧ encode i ++ rest = bs

/-- The unassigned opcodes of page 1, the refused second prebyte, and how many opcodes the other pages
assign (30 R183, R184). -/
def Obligations.IllegalOpcodes : Prop :=
  (∀ (op : Byte) (rest : List Byte),
    decode (op :: rest) = .error (.illegalOpcode .p1 op) ↔
      op.toNat ∈ [0x41, 0x42, 0x45, 0x4B, 0x4E, 0x51, 0x52, 0x55, 0x5B, 0x5E,
                  0x61, 0x62, 0x65, 0x6B, 0x71, 0x72, 0x75, 0x7B, 0x87, 0xC7]) ∧
  (∀ (p op : Byte) (page : Page) (rest : List Byte),
    prebyte? p = some page → prebyte? op ≠ none →
      decode (p :: op :: rest) = .error (.illegalOpcode page op)) ∧
  (∀ (page : Page) (n : Nat), (page, n) ∈ [(Page.p1, 233), (.p2, 64), (.p3, 7), (.p4, 4)] →
    ((List.range 256).countP fun op => (lookup page (BitVec.ofNat 8 op)).isSome) = n)

/-- Words written out from the encodings of the spec decode to their instructions (30 R189). -/
def Obligations.SampleWords : Prop :=
  decode [0x86, 0x80] = .ok (.ldaa (.imm 0x80), []) ∧
  decode [0xCD, 0xEE, 0x02] = .ok (.ldx (.mem (.indY 0x02)), []) ∧
  decode [0x1A, 0x83, 0x12, 0x35] = .ok (.cpd (.imm 0x1235), []) ∧
  decode [0x18, 0x1E, 0x05, 0x30, 0xFC] = .ok (.brset (.indY 0x05) 0x30 0xFC, []) ∧
  decode [0x7E, 0xC1, 0x00] = .ok (.jmp (.ext 0xC100), []) ∧
  decode [0x8D, 0x10] = .ok (.bsr 0x10, []) ∧
  decode [0x14, 0x20, 0x80] = .ok (.bset (.dir 0x20) 0x80, []) ∧
  decode [0x18, 0x09] = .ok (.dey, []) ∧
  decode [0x3F] = .ok (.swi, [])

/-! ### The step -/

/-- A running machine with no reset due and nothing recognised fetches the bytes at PC, and where they
decode to `i` the step is `exec i`, with PC past the bytes, no other register and no memory changed, and
the devices advanced by the cycles of `i` and those owed (00 R14, R18, 30 R171, 70 R550). -/
def Obligations.StepRunsInstruction : Prop :=
  ∀ (s u t : State) (i : Instr) (bytes : List Byte),
    resetCause (boundary s) = none → (boundary s).run = .running → recognise (boundary s) = none →
    u = { boundary s with inhibit := false } → decode bytes = .ok (i, []) →
    (∀ k : Nat, k < bytes.length →
      isReg u (u.pc + BitVec.ofNat 16 k) = false ∧ peek u (u.pc + BitVec.ofNat 16 k) = bytes[k]?) →
    t = spend (cycles i) (fetch u).2 → resetCause t = none →
    (fetch u).1 = bytes ∧ step s = exec i t ∧
      regs t = { regs u with pc := u.pc + BitVec.ofNat 16 bytes.length } ∧ t.ccr = u.ccr ∧
      t.mem = u.mem ∧ t.cycles = u.cycles + (fetch u).2.owed + cycles i

/-- Where the bytes fetched are no instruction the step is the illegal opcode trap: nine bytes stacked,
the address of the first byte as return address, I set (30 R183, R184, 60 R424, R440). -/
def Obligations.StepTrapsIllegal : Prop :=
  ∀ (s u t : State) (e : DecodeError),
    resetCause (boundary s) = none → (boundary s).run = .running → recognise (boundary s) = none →
    u = { boundary s with inhibit := false } → decode (fetch u).1 = .error e →
    t = spend 14 (fetch u).2 → resetCause t = none →
    ∃ v, step s = .next v ∧ regs v = { regs u with sp := u.sp - 9, pc := v.pc } ∧
      v.ccr = { u.ccr with i := true } ∧
      framed { t with pc := u.pc } v ∧
      (∀ h l, (∀ a, inFrame u.sp a → isReg t a = false) →
        ¬ inFrame u.sp (vectorAddr t 0xFFF8) → ¬ inFrame u.sp (vectorAddr t 0xFFF8 + 1) →
        peek t (vectorAddr t 0xFFF8) = some h → peek t (vectorAddr t 0xFFF8 + 1) = some l →
        v.pc = mk16 h l)

/-- No step stops the machine: it has no access, alignment, protection or arithmetic fault (60 R420). -/
def Obligations.StepNeverStops : Prop := ∀ s : State, ∃ t, step s = .next t

/-- Every step keeps the invariant: the memory arrays in canonical form, every bit the spec fixes as it
is fixed, the bootstrap ROM in the map only in a special mode. -/
def Obligations.StepKeepsInv : Prop := ∀ s t : State, s.Inv → step s = .next t → t.Inv

/-- The state after reset has the invariant. -/
def Obligations.ResetInv : Prop := State.reset.Inv

/-- No instruction sets X: software can clear it but cannot set it (10 R27). -/
def Obligations.XOnlyCleared : Prop :=
  ∀ (i : Instr) (s t : State), exec i s = .next t → t.ccr.x = true → s.ccr.x = true

/-- S is written only by TAP and RTI (10 R26), H only by the 8-bit additions, TAP and RTI (10 R28), and
only CLI, TAP and RTI lower I (10 R29). -/
def Obligations.ConditionCodeWriters : Prop :=
  ∀ (i : Instr) (s t : State), exec i s = .next t →
    (i ≠ .tap → i ≠ .rti → t.ccr.s = s.ccr.s) ∧
    (i ≠ .tap → i ≠ .rti → i ≠ .cli → s.ccr.i = true → t.ccr.i = true) ∧
    (i ≠ .tap → i ≠ .rti → i.addsBytes = false → t.ccr.h = s.ccr.h)

/-! ### Memory -/

/-- Where an address leads; a read answers what memory shows, or is the read of the register it leads to; a
16-bit read is the high byte at the lower address and then the low byte, but TCNT as one count, the one two
cycles before the instruction's end; reading writes nothing (00 R13, 20 R141, R148, R150, 60 R470, 70 R550;
the map on every INIT and the wrap of the second byte, log 8; the RAM's size, log 5; external memory, log
7). -/
def Obligations.ReadsTellMemory : Prop :=
  ∀ (s : State) (a : Word),
    (∀ page low : Nat, page = a.toNat / 4096 → low = a.toNat % 4096 →
      resolve s a =
        if page = s.sys.init.toNat % 16 ∧ low < 128 then .reg low
        else if page = s.sys.init.toNat / 16 ∧ low < 1024 then .mem .ram low
        else if s.rboot = true ∧ page = 0xB ∧ 0xF00 ≤ low then .mem .boot (low - 0xF00)
        else if s.eeon = true ∧ page = (if s.mda then s.sys.config.toNat / 16 else 0xF) ∧ 0xE00 ≤ low then
          .mem .eeprom (low - 0xE00)
        else if s.mda = true ∧ s.env.extPresent = true then .mem .ext a.toNat
        else .nothing) ∧
    (∀ off, resolve s a = .reg off → readByte a s = readReg off s) ∧
    (∀ v, peek s a = some v → (readByte a s).1 = v) ∧
    (∀ h l, resolve s a ≠ .reg 0x0E → h = readByte a s → l = readByte (a + 1) h.2 →
      read16 a s = (mk16 h.1 l.1, l.2)) ∧
    (∀ h l, isReg s a = false → peek s a = some h → peek s (a + 1) = some l →
      (read16 a s).1 = mk16 h l) ∧
    (∀ h l, resolve s a ≠ .reg 0x0E → peek s a = some h → peek (readByte a s).2 (a + 1) = some l →
      (read16 a s).1 = mk16 h l) ∧
    (resolve s a = .reg 0x0E → read16 a s = (s.tcnt16, s)) ∧
    (∀ n, (spend n s).tcnt16 = (advance (s.owed + n - 2) { s with owed := 0 }).timer.tcnt) ∧
    regs (readByte a s).2 = regs s ∧ (readByte a s).2.ccr = s.ccr ∧
    regs (read16 a s).2 = regs s ∧ (read16 a s).2.ccr = s.ccr ∧
    onlyRead s (readByte a s).2 (isReg s a) ∧
    onlyRead s (read16 a s).2 (isReg s a || isReg s (a + 1))

/-- A write stores its byte at its address and nowhere else, or is the write of the register that the
address leads to; the bootstrap ROM ignores it, and so does the EEPROM while EELAT = 0 (20 R142, R144,
R145). -/
def Obligations.WritesStore : Prop :=
  ∀ (s : State) (a : Word) (v : Byte),
    landed a v s (writeByte a v s) ∧ regs (writeByte a v s) = regs s ∧
    (writeByte a v s).ccr = s.ccr ∧
    (∀ off, resolve s a = .reg off → writeByte a v s = writeReg off v s) ∧
    (∀ off, resolve s a = .mem .boot off → writeByte a v s = s) ∧
    (∀ off, resolve s a = .mem .eeprom off → s.eelat = false → writeByte a v s = s)

/-! ### Loads, stores, transfers, stack, clear -/

/-- The effective address is dd (DIR), the address given (EXT), or IX or IY plus ff modulo 2^16 (IND), and an
8-bit operand is the immediate byte or what is read at the effective address (30 R176 to R180). LDAA, LDAB:
the operand, N and Z from it, V cleared; else only what reading the operand changes (40 R201, R202). -/
def Obligations.LoadAccumulator : Prop :=
  (∀ (s : State) (dd ii ff : Byte) (a : Word) (m : MemOp),
    (ea (.dir dd) s).toNat = dd.toNat ∧ ea (.ext a) s = a ∧
    (ea (.indX ff) s).toNat = (s.ix.toNat + ff.toNat) % 65536 ∧
    (ea (.indY ff) s).toNat = (s.iy.toNat + ff.toNat) % 65536 ∧
    operand8 (.imm ii) s = (ii, s) ∧ operand8 (.mem m) s = readByte (ea m s) s) ∧
  (∀ (s : State) (src : Src8),
    completes (.ldaa src) s (fun t => becomes8 src s t ((regs s).withAcc .a (operand8 src s).1)
      (valueFlags8 s.ccr (operand8 src s).1)) ∧
    completes (.ldab src) s (fun t => becomes8 src s t ((regs s).withAcc .b (operand8 src s).1)
      (valueFlags8 s.ccr (operand8 src s).1)))

/-- A 16-bit operand is the immediate word or the 16-bit read at the effective address (30 R176). LDD, LDS, LDX,
LDY: the operand, N and Z from its 16 bits, V cleared; else only what reading the operand changes (40 R203 to
R206). -/
def Obligations.LoadWide : Prop :=
  (∀ (s : State) (w : Word) (m : MemOp),
    operand16 (.imm w) s = (w, s) ∧ operand16 (.mem m) s = read16 (ea m s) s) ∧
  (∀ (s : State) (src : Src16) (i : Instr) (r : Reg16),
    (i, r) ∈ [(Instr.ldd src, Reg16.d), (.lds src, .sp), (.ldx src, .x), (.ldy src, .y)] →
    completes i s (fun t => becomes16 src s t ((regs s).withWide r (operand16 src s).1)
      (valueFlags16 s.ccr (operand16 src s).1)))

/-- STAA, STAB: the byte is written to the effective address, whatever unit is there, and nowhere else; N
and Z from it, V cleared. CLR: zero goes there, N 0, Z 1, V 0, C 0 (40 R207, R208, R231). -/
def Obligations.StoreBytes : Prop :=
  ∀ (s : State) (dst : MemOp),
    completes (.staa dst) s (fun t =>
      regs t = regs s ∧ t.ccr = valueFlags8 s.ccr s.a ∧ storedAt (ea dst s) s.a s t) ∧
    completes (.stab dst) s (fun t =>
      regs t = regs s ∧ t.ccr = valueFlags8 s.ccr s.b ∧ storedAt (ea dst s) s.b s t) ∧
    completes (.clr dst) s (fun t => regs t = regs s ∧
      t.ccr = { s.ccr with n := false, z := true, v := false, c := false } ∧
      modifiedAt (ea dst s) 0 s t)

/-- STD, STS, STX, STY: the word is written to the effective address and the next, high byte first, whatever
units are there, and nowhere else; N and Z from it, V cleared (40 R209 to R212). -/
def Obligations.StoreWide : Prop :=
  ∀ (s : State) (dst : MemOp) (i : Instr) (w : Word),
    (i, w) ∈ [(Instr.std dst, mk16 s.a s.b), (.sts dst, s.sp), (.stx dst, s.ix), (.sty dst, s.iy)] →
    completes i s (fun t => regs t = regs s ∧ t.ccr = valueFlags16 s.ccr w ∧
      stored16At (ea dst s) w s t)

/-- TAP loads CCR from A with X only downwards and inhibits one boundary where it leaves I = 0; TPA gives
the byte back (40 R213, R214, 45 R409). -/
def Obligations.ConditionCodeTransfers : Prop :=
  ∀ s : State,
    completes .tap s (fun t => regs t = { regs s with inhibit := decide (s.a.toNat / 16 % 2 = 0) } ∧
      t.ccr.toByte = (s.a &&& 0xBF) ||| (s.a &&& s.ccr.toByte &&& 0x40) ∧ onlyRead s t false) ∧
    completes .tpa s (fun t => becomes s t { regs s with a := s.ccr.toByte } s.ccr false ∧
      Ccr.ofByte t.a = s.ccr)

/-- TAB, TBA, TSX, TSY, TXS, TYS, XGDX, XGDY (40 R215 to R222). -/
def Obligations.Transfers : Prop :=
  ∀ s : State,
    completes .tab s (fun t => becomes s t { regs s with b := s.a } (valueFlags8 s.ccr s.a) false) ∧
    completes .tba s (fun t => becomes s t { regs s with a := s.b } (valueFlags8 s.ccr s.b) false) ∧
    completes .tsx s (fun t => becomes s t { regs s with ix := s.sp + 1 } s.ccr false) ∧
    completes .tsy s (fun t => becomes s t { regs s with iy := s.sp + 1 } s.ccr false) ∧
    completes .txs s (fun t => becomes s t { regs s with sp := s.ix - 1 } s.ccr false) ∧
    completes .tys s (fun t => becomes s t { regs s with sp := s.iy - 1 } s.ccr false) ∧
    completes .xgdx s (fun t => becomes s t
      { regs s with a := hi8 s.ix, b := lo8 s.ix, ix := mk16 s.a s.b } s.ccr false) ∧
    completes .xgdy s (fun t => becomes s t
      { regs s with a := hi8 s.iy, b := lo8 s.iy, iy := mk16 s.a s.b } s.ccr false)

/-- PSHA, PSHB, PSHX, PSHY: the value at SP, a word low byte first, SP lowered; PULA, PULB, PULX, PULY: SP
raised, the value from the stack, a word high byte first; no flag changes (40 R223 to R230). -/
def Obligations.PushesPulls : Prop :=
  ∀ s : State,
    completes .psha s (fun t =>
      regs t = { regs s with sp := s.sp - 1 } ∧ t.ccr = s.ccr ∧ storedAt s.sp s.a s t) ∧
    completes .pshb s (fun t =>
      regs t = { regs s with sp := s.sp - 1 } ∧ t.ccr = s.ccr ∧ storedAt s.sp s.b s t) ∧
    completes .pshx s (fun t =>
      regs t = { regs s with sp := s.sp - 2 } ∧ t.ccr = s.ccr ∧ pushed16At s.sp s.ix s t) ∧
    completes .pshy s (fun t =>
      regs t = { regs s with sp := s.sp - 2 } ∧ t.ccr = s.ccr ∧ pushed16At s.sp s.iy s t) ∧
    completes .pula s (fun t => becomes s t { regs s with a := t.a, sp := s.sp + 1 } s.ccr
      (isReg s (s.sp + 1)) ∧ ∀ v, peek s (s.sp + 1) = some v → t.a = v) ∧
    completes .pulb s (fun t => becomes s t { regs s with b := t.b, sp := s.sp + 1 } s.ccr
      (isReg s (s.sp + 1)) ∧ ∀ v, peek s (s.sp + 1) = some v → t.b = v) ∧
    completes .pulx s (fun t => becomes s t { regs s with ix := t.ix, sp := s.sp + 2 } s.ccr
      (isReg s (s.sp + 1) || isReg s (s.sp + 2)) ∧
      ∀ h l, isReg s (s.sp + 1) = false → peek s (s.sp + 1) = some h → peek s (s.sp + 2) = some l →
        t.ix = mk16 h l) ∧
    completes .puly s (fun t => becomes s t { regs s with iy := t.iy, sp := s.sp + 2 } s.ccr
      (isReg s (s.sp + 1) || isReg s (s.sp + 2)) ∧
      ∀ h l, isReg s (s.sp + 1) = false → peek s (s.sp + 1) = some h → peek s (s.sp + 2) = some l →
        t.iy = mk16 h l)

/-- CLRA, CLRB: their encodings and cycles; zero, with N 0, Z 1, V 0, C 0 (40 R232, R233). -/
def Obligations.ClearAccumulators : Prop :=
  ∀ (s : State) (rest : List Byte),
    decode (0x4F :: rest) = .ok (.clra, rest) ∧ cycles .clra = 2 ∧
    completes .clra s (fun t => becomes s t { regs s with a := 0 }
      { s.ccr with n := false, z := true, v := false, c := false } false) ∧
    decode (0x5F :: rest) = .ok (.clrb, rest) ∧ cycles .clrb = 2 ∧
    completes .clrb s (fun t => becomes s t { regs s with b := 0 }
      { s.ccr with n := false, z := true, v := false, c := false } false)

/-! ### Arithmetic -/

/-- ABA, ADDA, ADDB, ADCA, ADCB: the sum modulo 256, C the unsigned and V the signed overflow, H the
carry of the low digits (41 R250, R255, R258 to R261). -/
def Obligations.Addition8 : Prop :=
  ∀ (s : State) (src : Src8) (m : Byte), m = (operand8 src s).1 →
    completes .aba s (fun t => becomes s t
      { regs s with a := BitVec.ofNat 8 (sum8 s.a s.b false) } (sumFlags8 s.ccr s.a s.b false) false) ∧
    completes (.adda src) s (fun t => becomes8 src s t
      { regs s with a := BitVec.ofNat 8 (sum8 s.a m false) } (sumFlags8 s.ccr s.a m false)) ∧
    completes (.addb src) s (fun t => becomes8 src s t
      { regs s with b := BitVec.ofNat 8 (sum8 s.b m false) } (sumFlags8 s.ccr s.b m false)) ∧
    completes (.adca src) s (fun t => becomes8 src s t
      { regs s with a := BitVec.ofNat 8 (sum8 s.a m s.ccr.c) }
      (sumFlags8 s.ccr s.a m s.ccr.c)) ∧
    completes (.adcb src) s (fun t => becomes8 src s t
      { regs s with b := BitVec.ofNat 8 (sum8 s.b m s.ccr.c) }
      (sumFlags8 s.ccr s.b m s.ccr.c))

/-- SBA, SUBA, SUBB, SBCA, SBCB: the difference modulo 256, C the borrow, V the signed overflow, H kept
(41 R251, R263 to R267). -/
def Obligations.Subtraction8 : Prop :=
  ∀ (s : State) (src : Src8) (m : Byte), m = (operand8 src s).1 →
    completes .sba s (fun t => becomes s t
      { regs s with a := BitVec.ofInt 8 (diff8 s.a s.b false) }
      (diffFlags8 s.ccr s.a s.b false) false) ∧
    completes (.suba src) s (fun t => becomes8 src s t
      { regs s with a := BitVec.ofInt 8 (diff8 s.a m false) }
      (diffFlags8 s.ccr s.a m false)) ∧
    completes (.subb src) s (fun t => becomes8 src s t
      { regs s with b := BitVec.ofInt 8 (diff8 s.b m false) }
      (diffFlags8 s.ccr s.b m false)) ∧
    completes (.sbca src) s (fun t => becomes8 src s t
      { regs s with a := BitVec.ofInt 8 (diff8 s.a m s.ccr.c) }
      (diffFlags8 s.ccr s.a m s.ccr.c)) ∧
    completes (.sbcb src) s (fun t => becomes8 src s t
      { regs s with b := BitVec.ofInt 8 (diff8 s.b m s.ccr.c) }
      (diffFlags8 s.ccr s.b m s.ccr.c))

/-- CBA, CMPA, CMPB, CPD, CPX, CPY: the flags of the subtraction and nothing else (41 R251, R253, R269 to
R274). -/
def Obligations.Comparisons : Prop :=
  (∀ (s : State) (src : Src8) (m : Byte), m = (operand8 src s).1 →
    completes .cba s (fun t => becomes s t (regs s) (diffFlags8 s.ccr s.a s.b false) false) ∧
    completes (.cmpa src) s (fun t => becomes8 src s t (regs s) (diffFlags8 s.ccr s.a m false)) ∧
    completes (.cmpb src) s (fun t =>
      becomes8 src s t (regs s) (diffFlags8 s.ccr s.b m false))) ∧
  (∀ (s : State) (src : Src16) (i : Instr) (w : Word),
    (i, w) ∈ [(Instr.cpd src, mk16 s.a s.b), (.cpx src, s.ix), (.cpy src, s.iy)] →
    completes i s (fun t => becomes16 src s t (regs s)
      (diffFlags16 s.ccr w (operand16 src s).1)))

/-- ADDD, SUBD: the sum and the difference modulo 65536 with their flags, H kept (41 R252, R253, R262,
R268). -/
def Obligations.Arithmetic16 : Prop :=
  ∀ (s : State) (src : Src16) (d m : Word), m = (operand16 src s).1 → d = mk16 s.a s.b →
    completes (.addd src) s (fun t => becomes16 src s t
      ((regs s).withWide .d (BitVec.ofNat 16 (d.toNat + m.toNat))) (sumFlags16 s.ccr d m)) ∧
    completes (.subd src) s (fun t => becomes16 src s t
      ((regs s).withWide .d (BitVec.ofInt 16 (d.toNat - m.toNat))) (diffFlags16 s.ccr d m))

/-- ABX, ABY, INX, INY, DEX, DEY, INS, DES: their encodings and cycles; the index register or stack
pointer modulo 65536; INX, INY, DEX, DEY set Z on zero, and no other flag changes (41 R256, R257, R279 to
R281, R285 to R287). -/
def Obligations.IndexArithmetic : Prop :=
  ∀ (s : State) (rest : List Byte),
    (decode (0x3A :: rest) = .ok (.abx, rest) ∧ cycles .abx = 3 ∧
      completes .abx s (fun t => becomes s t
        { regs s with ix := BitVec.ofNat 16 (s.ix.toNat + s.b.toNat) } s.ccr false)) ∧
    (decode (0x18 :: 0x3A :: rest) = .ok (.aby, rest) ∧ cycles .aby = 4 ∧
      completes .aby s (fun t => becomes s t
        { regs s with iy := BitVec.ofNat 16 (s.iy.toNat + s.b.toNat) } s.ccr false)) ∧
    (decode (0x08 :: rest) = .ok (.inx, rest) ∧ cycles .inx = 3 ∧
      completes .inx s (fun t => becomes s t { regs s with ix := s.ix + 1 }
        { s.ccr with z := decide (s.ix.toNat = 65535) } false)) ∧
    (decode (0x18 :: 0x08 :: rest) = .ok (.iny, rest) ∧ cycles .iny = 4 ∧
      completes .iny s (fun t => becomes s t { regs s with iy := s.iy + 1 }
        { s.ccr with z := decide (s.iy.toNat = 65535) } false)) ∧
    (decode (0x09 :: rest) = .ok (.dex, rest) ∧ cycles .dex = 3 ∧
      completes .dex s (fun t => becomes s t { regs s with ix := s.ix - 1 }
        { s.ccr with z := decide (s.ix.toNat = 1) } false)) ∧
    (decode (0x18 :: 0x09 :: rest) = .ok (.dey, rest) ∧ cycles .dey = 4 ∧
      completes .dey s (fun t => becomes s t { regs s with iy := s.iy - 1 }
        { s.ccr with z := decide (s.iy.toNat = 1) } false)) ∧
    (decode (0x31 :: rest) = .ok (.ins, rest) ∧ cycles .ins = 3 ∧
      completes .ins s (fun t => becomes s t { regs s with sp := s.sp + 1 } s.ccr false)) ∧
    (decode (0x34 :: rest) = .ok (.des, rest) ∧ cycles .des = 3 ∧
      completes .des s (fun t => becomes s t { regs s with sp := s.sp - 1 } s.ccr false))

/-- DAA: A, and of the flags N, Z, V and C, are all it changes; after ADDA of two packed decimal bytes it
leaves their decimal sum modulo 100, the hundred in C (41 R275). -/
def Obligations.DecimalAdjust : Prop :=
  (∀ s : State, completes .daa s (fun t => regs t = { regs s with a := t.a } ∧
    t.ccr = { s.ccr with n := decide (128 ≤ t.a.toNat), z := decide (t.a.toNat = 0),
                         v := t.ccr.v, c := t.ccr.c } ∧
    (s.ccr.c = true → t.ccr.c = true) ∧ onlyRead s t false)) ∧
  (∀ (s t : State) (m : Byte), s.a.toNat / 16 < 10 → s.a.toNat % 16 < 10 →
    m.toNat / 16 < 10 → m.toNat % 16 < 10 → exec (.adda (.imm m)) s = .next t →
    completes .daa t (fun u =>
      let sum := s.a.toNat / 16 * 10 + s.a.toNat % 16 + (m.toNat / 16 * 10 + m.toNat % 16)
      u.a.toNat / 16 * 10 + u.a.toNat % 16 = sum % 100 ∧ u.a.toNat % 16 < 10 ∧
        u.ccr.c = decide (100 ≤ sum)))

/-- INC, INCA, INCB, DEC, DECA, DECB: one more and one less, V the signed overflow, C kept (41 R276 to
R278, R282 to R284). -/
def Obligations.IncrementDecrement : Prop :=
  ∀ (s : State) (dst : MemOp) (m : Byte), m = (readByte (ea dst s) s).1 →
    completes (.inc dst) s (fun t => regs t = regs s ∧ modifiedAt (ea dst s) (m + 1) s t ∧
      t.ccr = { valueFlags8 s.ccr (m + 1) with v := decide (127 < m.toInt + 1) }) ∧
    completes (.dec dst) s (fun t => regs t = regs s ∧ modifiedAt (ea dst s) (m - 1) s t ∧
      t.ccr = { valueFlags8 s.ccr (m - 1) with v := decide (m.toInt - 1 < -128) }) ∧
    completes .inca s (fun t => becomes s t { regs s with a := s.a + 1 }
      { valueFlags8 s.ccr (s.a + 1) with v := decide (127 < s.a.toInt + 1) } false) ∧
    completes .incb s (fun t => becomes s t { regs s with b := s.b + 1 }
      { valueFlags8 s.ccr (s.b + 1) with v := decide (127 < s.b.toInt + 1) } false) ∧
    completes .deca s (fun t => becomes s t { regs s with a := s.a - 1 }
      { valueFlags8 s.ccr (s.a - 1) with v := decide (s.a.toInt - 1 < -128) } false) ∧
    completes .decb s (fun t => becomes s t { regs s with b := s.b - 1 }
      { valueFlags8 s.ccr (s.b - 1) with v := decide (s.b.toInt - 1 < -128) } false)

/-- NEG, NEGA, NEGB: zero minus the value, C unless it is zero, V the signed overflow; COM, COMA, COMB:
$FF minus the value, V cleared, C set; TST, TSTA, TSTB: flags only, V and C cleared (41 R288 to R293,
42 R319 to R321). -/
def Obligations.NegateComplementTest : Prop :=
  ∀ (s : State) (dst : MemOp) (m : Byte), m = (readByte (ea dst s) s).1 →
    (let neg (x : Byte) : Ccr :=
      { valueFlags8 s.ccr (0 - x) with v := decide (127 < -x.toInt), c := decide (x.toNat ≠ 0) }
     completes (.neg dst) s (fun t =>
      regs t = regs s ∧ modifiedAt (ea dst s) (0 - m) s t ∧ t.ccr = neg m) ∧
     completes .nega s (fun t => becomes s t { regs s with a := 0 - s.a } (neg s.a) false) ∧
     completes .negb s (fun t => becomes s t { regs s with b := 0 - s.b } (neg s.b) false)) ∧
    (let com (x : Byte) : Ccr := { valueFlags8 s.ccr (0xFF - x) with c := true }
     completes (.com dst) s (fun t =>
      regs t = regs s ∧ modifiedAt (ea dst s) (0xFF - m) s t ∧ t.ccr = com m) ∧
     completes .coma s (fun t => becomes s t { regs s with a := 0xFF - s.a } (com s.a) false) ∧
     completes .comb s (fun t => becomes s t { regs s with b := 0xFF - s.b } (com s.b) false)) ∧
    (let tst (x : Byte) : Ccr := { valueFlags8 s.ccr x with c := false }
     completes (.tst dst) s (fun t => becomes8 (.mem dst) s t (regs s) (tst m)) ∧
     completes .tsta s (fun t => becomes s t (regs s) (tst s.a) false) ∧
     completes .tstb s (fun t => becomes s t (regs s) (tst s.b) false))

/-- MUL: D is the unsigned product and C its bit 7; IDIV: quotient and remainder of D by IX; FDIV: those of
D times 65536 by IX, which needs D below IX; where there is no quotient IX is $FFFF and C, V say why
(41 R294 to R296). -/
def Obligations.MultiplyDivide : Prop :=
  ∀ (s : State) (d : Nat), d = (mk16 s.a s.b).toNat →
    completes .mul s (fun t => regs t = { regs s with a := t.a, b := t.b } ∧ onlyRead s t false ∧
      (mk16 t.a t.b).toNat = s.a.toNat * s.b.toNat ∧
      t.ccr = { s.ccr with c := decide (128 ≤ s.a.toNat * s.b.toNat % 256) }) ∧
    completes .idiv s (fun t => regs t = { regs s with a := t.a, b := t.b, ix := t.ix } ∧
      onlyRead s t false ∧
      if s.ix.toNat = 0 then
        t.ix = 0xFFFF ∧ t.ccr = { s.ccr with z := false, v := false, c := true }
      else
        s.ix.toNat * t.ix.toNat + (mk16 t.a t.b).toNat = d ∧ (mk16 t.a t.b).toNat < s.ix.toNat ∧
          t.ccr = { s.ccr with z := decide (t.ix.toNat = 0), v := false, c := false }) ∧
    completes .fdiv s (fun t => regs t = { regs s with a := t.a, b := t.b, ix := t.ix } ∧
      onlyRead s t false ∧
      if s.ix.toNat ≤ d then
        t.ix = 0xFFFF ∧
          t.ccr = { s.ccr with z := false, v := true, c := decide (s.ix.toNat = 0) }
      else
        s.ix.toNat * t.ix.toNat + (mk16 t.a t.b).toNat = d * 65536 ∧
          (mk16 t.a t.b).toNat < s.ix.toNat ∧
          t.ccr = { s.ccr with z := decide (t.ix.toNat = 0), v := false, c := false })

/-! ### Logic, bits, shifts -/

/-- ANDA, ANDB, EORA, EORB, ORAA, ORAB, and BITA, BITB, which keep the accumulator: bitwise, N and Z from
the result, V cleared, C kept (42 R310 to R318). -/
def Obligations.LogicAccumulator : Prop :=
  ∀ (s : State) (src : Src8) (m : Byte), m = (operand8 src s).1 →
    (∀ (i : Instr) (r : Acc) (v : Byte),
      (i, r, v) ∈ [(Instr.anda src, Acc.a, s.a &&& m), (.andb src, .b, s.b &&& m),
                   (.eora src, .a, s.a ^^^ m), (.eorb src, .b, s.b ^^^ m),
                   (.oraa src, .a, s.a ||| m), (.orab src, .b, s.b ||| m)] →
      completes i s (fun t =>
        becomes8 src s t ((regs s).withAcc r v) (valueFlags8 s.ccr v))) ∧
    completes (.bita src) s (fun t =>
      becomes8 src s t (regs s) (valueFlags8 s.ccr (s.a &&& m))) ∧
    completes (.bitb src) s (fun t =>
      becomes8 src s t (regs s) (valueFlags8 s.ccr (s.b &&& m)))

/-- BSET sets and BCLR clears the bits of the mask in the byte at the effective address and keeps the
others (42 R322, R323). -/
def Obligations.BitSetClear : Prop :=
  ∀ (s : State) (dst : MemOp) (mm m : Byte), m = (readByte (ea dst s) s).1 →
    completes (.bset dst mm) s (fun t => regs t = regs s ∧ ∃ v, modifiedAt (ea dst s) v s t ∧
      t.ccr = valueFlags8 s.ccr v ∧ ∀ k, k < 8 → bit v k = (bit m k || bit mm k)) ∧
    completes (.bclr dst mm) s (fun t => regs t = regs s ∧ ∃ v, modifiedAt (ea dst s) v s t ∧
      t.ccr = valueFlags8 s.ccr v ∧ ∀ k, k < 8 → bit v k = (bit m k && !bit mm k))

/-- The shifts and rotates of a memory byte, of A and of B: the result as a number, the bit shifted out in
C, V = N xor C (43 R330 to R333, R335 to R340, R342 to R347). -/
def Obligations.Shifts8 : Prop :=
  ∀ (s : State) (dst : MemOp) (m : Byte) (mem ia ib : Instr) (f : Nat → Nat) (out : Nat → Bool),
    m = (readByte (ea dst s) s).1 →
    (mem, ia, ib, f, out) ∈
      [(Instr.asl dst, Instr.asla, Instr.aslb, (fun x => 2 * x % 256), (fun x => decide (128 ≤ x))),
       (.asr dst, .asra, .asrb, (fun x => x / 2 + x / 128 * 128), (fun x => decide (x % 2 = 1))),
       (.lsr dst, .lsra, .lsrb, (fun x => x / 2), (fun x => decide (x % 2 = 1))),
       (.rol dst, .rola, .rolb, (fun x => (2 * x + s.ccr.c.toNat) % 256),
         (fun x => decide (128 ≤ x))),
       (.ror dst, .rora, .rorb, (fun x => x / 2 + 128 * s.ccr.c.toNat),
         (fun x => decide (x % 2 = 1)))] →
    completes mem s (fun t => regs t = regs s ∧
      modifiedAt (ea dst s) (BitVec.ofNat 8 (f m.toNat)) s t ∧
      t.ccr = shiftFlags8 s.ccr (f m.toNat) (out m.toNat)) ∧
    completes ia s (fun t => becomes s t { regs s with a := BitVec.ofNat 8 (f s.a.toNat) }
      (shiftFlags8 s.ccr (f s.a.toNat) (out s.a.toNat)) false) ∧
    completes ib s (fun t => becomes s t { regs s with b := BitVec.ofNat 8 (f s.b.toNat) }
      (shiftFlags8 s.ccr (f s.b.toNat) (out s.b.toNat)) false)

/-- ASLD, LSRD on the 16 bits of D (43 R330, R334, R341). -/
def Obligations.Shifts16 : Prop :=
  ∀ (s : State) (d : Nat), d = (mk16 s.a s.b).toNat →
    completes .asld s (fun t => becomes s t
      ((regs s).withWide .d (BitVec.ofNat 16 (2 * d % 65536)))
      (shiftFlags16 s.ccr (2 * d % 65536) (decide (32768 ≤ d))) false) ∧
    completes .lsrd s (fun t => becomes s t
      ((regs s).withWide .d (BitVec.ofNat 16 (d / 2)))
      (shiftFlags16 s.ccr (d / 2) (decide (d % 2 = 1))) false)

/-! ### Branches, jumps, calls -/

/-- The branches on one flag: opcode, three cycles, and the condition (44 R361 to R370); the target modulo
2^16 is 44 R360, 30 R181 and 92 D7 (log 8). -/
def Obligations.SimpleBranches : Prop :=
  ∀ (s : State) (rr op : Byte) (rest : List Byte) (i : Instr) (cond : Bool),
    (op, i, cond) ∈
      [(0x20#8, Instr.bra rr, true), (0x21, .brn rr, false),
       (0x24, .bcc rr, s.ccr.c == false), (0x25, .bcs rr, s.ccr.c == true),
       (0x27, .beq rr, s.ccr.z == true), (0x26, .bne rr, s.ccr.z == false),
       (0x2B, .bmi rr, s.ccr.n == true), (0x2A, .bpl rr, s.ccr.n == false),
       (0x29, .bvs rr, s.ccr.v == true), (0x28, .bvc rr, s.ccr.v == false)] →
    decode (op :: rr :: rest) = .ok (i, rest) ∧ cycles i = 3 ∧
    completes i s (fun t => becomes s t
      { regs s with pc := if cond then BitVec.ofInt 16 (s.pc.toNat + rr.toInt) else s.pc }
      s.ccr false)

/-- The branches on two or three flags (44 R371 to R376). -/
def Obligations.ComparisonBranches : Prop :=
  ∀ (s : State) (rr : Byte) (i : Instr) (cond : Bool),
    (i, cond) ∈
      [(Instr.bge rr, s.ccr.n == s.ccr.v), (.blt rr, s.ccr.n != s.ccr.v),
       (.bgt rr, !s.ccr.z && s.ccr.n == s.ccr.v), (.ble rr, s.ccr.z || s.ccr.n != s.ccr.v),
       (.bhi rr, !s.ccr.c && !s.ccr.z), (.bls rr, s.ccr.c || s.ccr.z)] →
    completes i s (fun t => becomes s t
      { regs s with pc := if cond then BitVec.ofInt 16 (s.pc.toNat + rr.toInt) else s.pc }
      s.ccr false)

/-- After CMPA, and after CPX, the signed and unsigned branches are taken exactly when the register
compares so with the operand (44 R384). -/
def Obligations.BranchesAfterCompare : Prop :=
  (∀ (s t : State) (src : Src8) (rr : Byte) (m : Byte) (i : Instr) (cond : Bool),
    exec (.cmpa src) s = .next t → m = (operand8 src s).1 →
    (i, cond) ∈
      [(Instr.bgt rr, decide (m.toInt < s.a.toInt)), (.bge rr, decide (m.toInt ≤ s.a.toInt)),
       (.beq rr, decide (s.a = m)), (.bne rr, decide (s.a ≠ m)),
       (.ble rr, decide (s.a.toInt ≤ m.toInt)), (.blt rr, decide (s.a.toInt < m.toInt)),
       (.bhi rr, decide (m.toNat < s.a.toNat)), (.bcc rr, decide (m.toNat ≤ s.a.toNat)),
       (.bls rr, decide (s.a.toNat ≤ m.toNat)), (.bcs rr, decide (s.a.toNat < m.toNat))] →
    completes i t (fun u => u.pc = if cond then t.pc + sext16 rr else t.pc)) ∧
  (∀ (s t : State) (src : Src16) (rr : Byte) (m : Word) (i : Instr) (cond : Bool),
    exec (.cpx src) s = .next t → m = (operand16 src s).1 →
    (i, cond) ∈
      [(Instr.bgt rr, decide (m.toInt < s.ix.toInt)), (.bge rr, decide (m.toInt ≤ s.ix.toInt)),
       (.beq rr, decide (s.ix = m)), (.bne rr, decide (s.ix ≠ m)),
       (.ble rr, decide (s.ix.toInt ≤ m.toInt)), (.blt rr, decide (s.ix.toInt < m.toInt)),
       (.bhi rr, decide (m.toNat < s.ix.toNat)), (.bcc rr, decide (m.toNat ≤ s.ix.toNat)),
       (.bls rr, decide (s.ix.toNat ≤ m.toNat)), (.bcs rr, decide (s.ix.toNat < m.toNat))] →
    completes i t (fun u => u.pc = if cond then t.pc + sext16 rr else t.pc))

/-- BRSET branches when every bit of the mask is set in the byte, BRCLR when every one is clear; the byte
is read and not written (44 R377, R378). -/
def Obligations.BitTestBranches : Prop :=
  ∀ (s : State) (src : MemOp) (mm rr m : Byte), m = (readByte (ea src s) s).1 →
    completes (.brset src mm rr) s (fun t => becomes8 (.mem src) s t { regs s with pc := t.pc } s.ccr ∧
      ((∀ k, k < 8 → bit mm k = true → bit m k = true) → t.pc = s.pc + sext16 rr) ∧
      ((∃ k, k < 8 ∧ bit mm k = true ∧ bit m k = false) → t.pc = s.pc)) ∧
    completes (.brclr src mm rr) s (fun t => becomes8 (.mem src) s t { regs s with pc := t.pc } s.ccr ∧
      ((∀ k, k < 8 → bit mm k = true → bit m k = false) → t.pc = s.pc + sext16 rr) ∧
      ((∃ k, k < 8 ∧ bit mm k = true ∧ bit m k = true) → t.pc = s.pc))

/-- JMP: its three encodings and their cycles, and no DIR form; PC is the effective address, which is not
read (44 R380); an indexed address modulo 2^16 is 30 R179, R180 and 92 D7 (log 8). -/
def Obligations.Jump : Prop :=
  ∀ (s : State) (hh ll ff : Byte) (rest : List Byte),
    (∀ (bytes : List Byte) (dd : Byte), decode bytes ≠ .ok (.jmp (.dir dd), rest)) ∧
    (decode (0x7E :: hh :: ll :: rest) = .ok (.jmp (.ext (mk16 hh ll)), rest) ∧
      cycles (.jmp (.ext (mk16 hh ll))) = 3 ∧
      completes (.jmp (.ext (mk16 hh ll))) s (fun t =>
        becomes s t { regs s with pc := mk16 hh ll } s.ccr false)) ∧
    (decode (0x6E :: ff :: rest) = .ok (.jmp (.indX ff), rest) ∧ cycles (.jmp (.indX ff)) = 3 ∧
      completes (.jmp (.indX ff)) s (fun t => becomes s t
        { regs s with pc := BitVec.ofNat 16 (s.ix.toNat + ff.toNat) } s.ccr false)) ∧
    (decode (0x18 :: 0x6E :: ff :: rest) = .ok (.jmp (.indY ff), rest) ∧
      cycles (.jmp (.indY ff)) = 4 ∧
      completes (.jmp (.indY ff)) s (fun t => becomes s t
        { regs s with pc := BitVec.ofNat 16 (s.iy.toNat + ff.toNat) } s.ccr false))

/-- BSR and JSR push the return address, low byte first, and go to the target; RTS pulls it (44 R379,
R381, R382). -/
def Obligations.CallsReturns : Prop :=
  ∀ (s : State) (rr : Byte) (dst : MemOp),
    completes (.bsr rr) s (fun t => t.ccr = s.ccr ∧ pushed16At s.sp s.pc s t ∧
      regs t = { regs s with sp := s.sp - 2, pc := BitVec.ofInt 16 (s.pc.toNat + rr.toInt) }) ∧
    completes (.jsr dst) s (fun t => t.ccr = s.ccr ∧ pushed16At s.sp s.pc s t ∧
      regs t = { regs s with sp := s.sp - 2, pc := ea dst s }) ∧
    completes .rts s (fun t => becomes s t { regs s with pc := t.pc, sp := s.sp + 2 } s.ccr
      (isReg s (s.sp + 1) || isReg s (s.sp + 2)) ∧
      ∀ h l, isReg s (s.sp + 1) = false → peek s (s.sp + 1) = some h → peek s (s.sp + 2) = some l →
        t.pc = mk16 h l)

/-! ### Condition codes and system instructions -/

/-- CLC, CLV, SEC, SEV, NOP: encoding, two cycles, the one flag and nothing else (45 R400, R402, R403,
R405, R406). -/
def Obligations.FlagInstructions : Prop :=
  ∀ (s : State) (rest : List Byte) (op : Byte) (i : Instr) (c : Ccr),
    (op, i, c) ∈
      [(0x0C#8, Instr.clc, { s.ccr with c := false }), (0x0A, .clv, { s.ccr with v := false }),
       (0x0D, .sec, { s.ccr with c := true }), (0x0B, .sev, { s.ccr with v := true }),
       (0x01, .nop, s.ccr)] →
    decode (op :: rest) = .ok (i, rest) ∧ cycles i = 2 ∧
      completes i s (fun t => becomes s t (regs s) c false)

/-- CLI clears I, and no maskable interrupt is recognised at the next boundary; SEI sets it, and none is
recognised then either (45 R401, R404, R409). -/
def Obligations.InterruptMaskInstructions : Prop :=
  ∀ s : State,
    completes .cli s (fun t => becomes s t { regs s with inhibit := true }
      { s.ccr with i := false } false ∧ ∀ src, recognise (boundary t) ≠ some (.source src)) ∧
    completes .sei s (fun t => becomes s t (regs s) { s.ccr with i := true } false ∧
      ∀ src, recognise (boundary t) ≠ some (.source src))

/-- SWI: nine bytes stacked, I set whatever the masks, PC from the vector $FFF6, $BFF6 in a special mode
(45 R408, 60 R440, R441). -/
def Obligations.SoftwareInterrupt : Prop :=
  ∀ (s : State) (v : Word), v = (if s.smod then 0xBFF6 else 0xFFF6) →
    completes .swi s (fun t => regs t = { regs s with sp := s.sp - 9, pc := t.pc } ∧
      t.ccr = { s.ccr with i := true } ∧ framed s t ∧
      ∀ h l, (∀ a, inFrame s.sp a → isReg s a = false) → ¬ inFrame s.sp v → ¬ inFrame s.sp (v + 1) →
        peek s v = some h → peek s (v + 1) = some l → t.pc = mk16 h l)

/-- RTI: SP rises by nine; where the nine bytes can be read it restores CCR, with X only downwards, B, A,
IX, IY and PC from them (45 R407, 60 R445). -/
def Obligations.ReturnFromInterrupt : Prop :=
  ∀ s : State, completes .rti s (fun t =>
    t.sp = s.sp + 9 ∧ t.run = s.run ∧ t.inhibit = s.inhibit ∧ memorySame s t nowhere ∧
    devicesSame s t ∧ t.ee = s.ee ∧ (t.ccr.x = true → s.ccr.x = true) ∧
    ∀ c b a xh xl yh yl ph pl : Byte,
      (∀ k : Nat, 1 ≤ k → k ≤ 9 → isReg s (s.sp + BitVec.ofNat 16 k) = false ∧
        peek s (s.sp + BitVec.ofNat 16 k) = [c, b, a, xh, xl, yh, yl, ph, pl][k - 1]?) →
      serialSame s t ∧ t.ccr.toByte = (c &&& 0xBF) ||| (c &&& s.ccr.toByte &&& 0x40) ∧
        t.b = b ∧ t.a = a ∧ t.ix = mk16 xh xl ∧ t.iy = mk16 yh yl ∧ t.pc = mk16 ph pl)

/-- RTI undoes every exception entry whose frame is in RAM or external memory: all registers and
condition codes are as before the entry (60 R440, R445). -/
def Obligations.ReturnUndoesEntry : Prop :=
  ∀ (s : State) (vector : Word) (setX : Bool),
    (∀ a, inFrame s.sp a → isCell s a = true) →
    completes .rti (enter vector setX s) (fun t => regs t = regs s ∧ t.ccr = s.ccr)

/-- WAI stacks the nine bytes, changes no flag and waits. STOP with S = 1 changes nothing; with S = 0 it
stops the clocks, which an enabled clock monitor takes for a failure. TEST in a special mode is stuck; in
a normal mode it is the illegal opcode trap with its own address stacked and PC from $FFF8 (45 R410, R412
to R414; log 15 for the clock monitor). -/
def Obligations.WaitStopTest : Prop :=
  ∀ s : State,
    completes .wai s (fun t =>
      regs t = { regs s with sp := s.sp - 9, run := .waiting } ∧ t.ccr = s.ccr ∧ framed s t) ∧
    (s.ccr.s = true → completes .stop s (fun t => becomes s t (regs s) s.ccr false)) ∧
    (s.ccr.s = false → completes .stop s (fun t =>
      regs t = { regs s with run := .stopped } ∧ t.ccr = s.ccr ∧ memorySame s t nowhere ∧
      serialSame s t ∧ t.timer = s.timer ∧ t.ports = s.ports ∧ t.adc = s.adc ∧ t.cop = s.cop ∧
      t.ee = s.ee ∧ t.cycles = s.cycles ∧ t.sys = s.sys ∧
      t.clockFail = (s.clockFail || bit s.sys.option 3 || s.sys.forcedCm))) ∧
    (s.smod = true → completes .test s (fun t =>
      becomes s t { regs s with run := .testing } s.ccr false)) ∧
    (s.smod = false → completes .test s (fun t =>
      regs t = { regs s with sp := s.sp - 9, pc := t.pc } ∧ t.ccr = { s.ccr with i := true } ∧
      framed { s with pc := s.pc - 1 } t ∧
      ∀ h l, (∀ a, inFrame s.sp a → isReg s a = false) → ¬ inFrame s.sp 0xFFF8 →
        ¬ inFrame s.sp 0xFFF9 → peek s 0xFFF8 = some h → peek s 0xFFF9 = some l → t.pc = mk16 h l))

/-! ### Interrupts and resets -/

/-- Recognition: XIRQ where X = 0 before all others; a maskable source only where I = 0, requesting, and
either promoted or, the promoted one not requesting, with the highest vector of those requesting; none
recognised means none requests unmasked. The vectors, the source each value of PSEL promotes, and the flags
and masks that make a source request (60 R421, R430 to R436). -/
def Obligations.InterruptPriority : Prop :=
  (∀ s : State,
    (recognise s = some .xirq ↔ s.ccr.x = false ∧ s.env.pins.xirq = false) ∧
    (∀ src, recognise s = some (.source src) →
      s.ccr.i = false ∧ s.inhibit = false ∧ requests s src = true ∧
      (src = promoted s ∨ (requests s (promoted s) = false ∧
        ∀ other, requests s other = true → other.vector.toNat ≤ src.vector.toNat))) ∧
    (recognise s = none → s.ccr.i = false → s.inhibit = false → ∀ src, requests s src = false)) ∧
  (∀ (r : Request) (v : Word),
    (r, v) ∈
      [(Request.xirq, 0xFFF4#16), (.source .irq, 0xFFF2), (.source .rti, 0xFFF0), (.source .ic1, 0xFFEE),
       (.source .ic2, 0xFFEC), (.source .ic3, 0xFFEA), (.source .oc1, 0xFFE8), (.source .oc2, 0xFFE6),
       (.source .oc3, 0xFFE4), (.source .oc4, 0xFFE2), (.source .i4o5, 0xFFE0), (.source .tof, 0xFFDE),
       (.source .paov, 0xFFDC), (.source .pai, 0xFFDA), (.source .spi, 0xFFD8), (.source .sci, 0xFFD6)] →
    r.vector = v) ∧
  (∀ (s : State) (psel : Nat) (src : Source), s.sys.hprio.toNat % 16 = psel →
    (psel, src) ∈
      [(0, Source.tof), (1, .paov), (2, .pai), (3, .spi), (4, .sci), (5, .irq), (6, .irq), (7, .rti),
       (8, .ic1), (9, .ic2), (10, .ic3), (11, .oc1), (12, .oc2), (13, .oc3), (14, .oc4), (15, .i4o5)] →
    promoted s = src) ∧
  (∀ (s : State) (src : Source) (flags masks : Byte) (k : Nat),
    (src, flags, masks, k) ∈
      [(Source.oc1, s.timer.tflg1, s.timer.tmsk1, 7), (.oc2, s.timer.tflg1, s.timer.tmsk1, 6),
       (.oc3, s.timer.tflg1, s.timer.tmsk1, 5), (.oc4, s.timer.tflg1, s.timer.tmsk1, 4),
       (.i4o5, s.timer.tflg1, s.timer.tmsk1, 3), (.ic1, s.timer.tflg1, s.timer.tmsk1, 2),
       (.ic2, s.timer.tflg1, s.timer.tmsk1, 1), (.ic3, s.timer.tflg1, s.timer.tmsk1, 0),
       (.tof, s.timer.tflg2, s.timer.tmsk2, 7), (.rti, s.timer.tflg2, s.timer.tmsk2, 6),
       (.paov, s.timer.tflg2, s.timer.tmsk2, 5), (.pai, s.timer.tflg2, s.timer.tmsk2, 4)] →
    requests s src = (bit flags k && bit masks k)) ∧
  (∀ s : State,
    requests s .irq = (if bit s.sys.option 5 then s.irqEdge else !s.env.pins.irq) ∧
    (requests s .spi = true ↔
      (bit s.spi.spsr 7 = true ∨ bit s.spi.spsr 4 = true) ∧ bit s.spi.spcr 7 = true) ∧
    (requests s .sci = true ↔ ∃ flag mask : Nat,
      (flag, mask) ∈ [(7, 7), (6, 6), (5, 5), (3, 5), (4, 4)] ∧
        bit s.sci.scsr flag = true ∧ bit s.sci.sccr2 mask = true))

/-- An interrupt recognised by a running machine is taken: nine bytes stacked with the address of the next
instruction and nothing else stored, A, B, IX and IY kept, I set, X set for XIRQ only, the inhibition over,
the edge latch cleared for IRQ only, PC from the vector, read $4000 lower in a special mode (60 R421, R431,
R436, R440 to R442). -/
def Obligations.StepTakesInterrupt : Prop :=
  ∀ (s t : State) (r : Request) (w : Word),
    resetCause (boundary s) = none → (boundary s).run = .running →
    recognise (boundary s) = some r → t = spend 14 { boundary s with inhibit := false } →
    resetCause t = none → w = (if t.smod then r.vector - 0x4000 else r.vector) →
    ∃ u, step s = .next u ∧ regs t = { regs (boundary s) with inhibit := false } ∧
      t.ccr = (boundary s).ccr ∧ t.mem = (boundary s).mem ∧ interrupted r w t u

/-- A waiting machine with nothing recognised changes no register and lets one cycle pass; a recognised
request ends the wait without stacking again, I set, X set for XIRQ only, the edge latch cleared for IRQ only,
PC from the vector. A stopped machine stays as it is until a pin restarts it; XIRQ with X = 1 lets it go on
with the next instruction; XIRQ with X = 0, and IRQ with I = 0 where XIRQ is high, are taken from it by the
normal entry, the address after STOP stacked; with DLY = 1 the cycles of a start-up delay, whose length is
free, pass before the CPU goes on (45 R411, R412, R413). The model's choices are: when the exit delay is
counted, that XIRQ goes before IRQ where both pins are low, and that a stop is ended by an edge of IRQ latched
before STOP too, of which R413 names only the pin event (log 15); the cycles of the wait and of its end (log
14). -/
def Obligations.WaitAndStopEnd : Prop :=
  (∀ s : State, resetCause (boundary s) = none → (boundary s).run = .waiting →
    (recognise (boundary s) = none → ∃ t, step s = .next t ∧
      regs t = { regs (boundary s) with inhibit := false } ∧ t.ccr = (boundary s).ccr ∧
      t.mem = (boundary s).mem ∧ t.cycles = (boundary s).cycles + 1) ∧
    (∀ r u, recognise (boundary s) = some r → u = spend 2 { boundary s with inhibit := false } →
      resetCause u = none → ∃ t, step s = .next t ∧
      regs t = { regs (boundary s) with pc := t.pc, run := .running, inhibit := false } ∧
      t.ccr = { (boundary s).ccr with
        i := true, x := (boundary s).ccr.x || decide (r = .xirq) } ∧ t.mem = (boundary s).mem ∧
      t.irqEdge = (u.irqEdge && decide (r ≠ .source .irq)) ∧
      ∀ h l, peek u (vectorAddr u r.vector) = some h → peek u (vectorAddr u r.vector + 1) = some l →
        t.pc = mk16 h l)) ∧
  (∀ (s : State) (n : Nat), resetCause (boundary s) = none → (boundary s).run = .stopped →
    n = (boundary s).owed + (if bit (boundary s).sys.option 4 then Config.stopDelay else 0) →
    ((boundary s).env.pins.xirq = true →
      ((boundary s).ccr.i = true ∨ irqRequested (boundary s) = false) →
      step s = .next (boundary s)) ∧
    ((boundary s).env.pins.xirq = false → (boundary s).ccr.x = true →
      step s = .next { boundary s with run := .running, owed := n }) ∧
    (∀ (r : Request) (v w : Word) (t : State),
      ((boundary s).env.pins.xirq = false ∧ (boundary s).ccr.x = false ∧ r = .xirq ∧ v = 0xFFF4) ∨
        ((boundary s).env.pins.xirq = true ∧ (boundary s).ccr.i = false ∧
          irqRequested (boundary s) = true ∧ r = .source .irq ∧ v = 0xFFF2) →
      t = spend 14 { boundary s with run := .running, inhibit := false, owed := n } → resetCause t = none →
      w = (if t.smod then v - 0x4000 else v) →
      ∃ u, step s = .next u ∧ regs t = { regs (boundary s) with run := .running, inhibit := false } ∧
        t.ccr = (boundary s).ccr ∧ t.mem = (boundary s).mem ∧ interrupted r w t u))

/-- A reset gives every register of the block, and the hidden state, the reset value the spec prints,
whatever the cause and the state before; the port latches behind the external bus and the bits printed
without a value are left out (70 R522, R525). -/
def Obligations.ResetRegisters : Prop :=
  ∀ (c : ResetCause) (s t : State), t = takeReset c s →
    t.ports.ddra = 0 ∧ t.ports.ddrg = 0 ∧ t.ports.ddrc = 0 ∧ t.ports.ddrd = 0 ∧ t.ports.d = 0 ∧
    t.ports.a &&& 0x70 = 0 ∧ t.ports.g = 0 ∧
    (t.mda = false → t.ports.b = 0 ∧ t.ports.f = 0 ∧ t.ports.c = 0) ∧
    t.timer.tcnt = 0 ∧ t.timer.oc1m = 0 ∧ t.timer.oc1d = 0 ∧
    t.timer.toc1 = 0xFFFF ∧ t.timer.toc2 = 0xFFFF ∧ t.timer.toc3 = 0xFFFF ∧
    t.timer.toc4 = 0xFFFF ∧ t.timer.ti4o5 = 0xFFFF ∧ t.timer.tctl1 = 0 ∧ t.timer.tctl2 = 0 ∧
    t.timer.tmsk1 = 0 ∧ t.timer.tflg1 = 0 ∧ t.timer.tmsk2 = 0 ∧ t.timer.tflg2 = 0 ∧
    t.timer.pactl = 0 ∧ t.timer.tic1 = s.timer.tic1 ∧ t.timer.tic2 = s.timer.tic2 ∧
    t.timer.tic3 = s.timer.tic3 ∧
    t.spi.spcr &&& 0xFC = 0x04 ∧ t.spi.spsr = 0 ∧ t.sci.baud &&& 0xF8 = 0 ∧ t.sci.sccr1 = 0 ∧
    t.sci.sccr2 = 0 ∧ t.sci.scsr = 0xC0 ∧ t.adc.adctl &&& 0x40 = 0 ∧
    t.ee.bprot = 0x1F ∧ t.ee.pprog = 0 ∧ t.sys.opt2 = 0x20 ∧ t.sys.option = 0x10 ∧
    t.sys.init = 0x01 ∧ t.sys.config = s.sys.configCells ||| 0x0A ∧ t.sys.csstrh = 0 ∧
    t.sys.csgadr = 0 ∧ t.sys.csgsiz = 0x07 ∧ t.cycles = 0 ∧ t.cop.armed = false ∧
    t.cop.count = 0 ∧ t.irqEdge = false ∧ t.inhibit = false ∧ t.sys.wroteInit = false ∧
    t.sys.wroteOption = false ∧ t.sys.wroteTmsk2 = false ∧ t.sys.wroteBprot = false ∧
    t.sys.wroteClk4x = false ∧ t.sys.wroteMda = false ∧ t.sys.forcedCm = false ∧
    (t.mode, t.sys.hprio) ∈
      [(OpMode.singleChip, 0x06#8), (.expanded, 0x26), (.bootstrap, 0xC6), (.specialTest, 0x66)] ∧
    (t.mode = .singleChip → t.sys.csctl = 0) ∧ (t.mode = .expanded → t.sys.csctl = 0x04) ∧
    t.sys.csctl &&& 0xFB = 0 ∧ t.ee.latch = none ∧ t.run = .running ∧ t.timer.phase = 0 ∧
    t.timer.paPhase = 0 ∧ t.sci.readMask = 0 ∧ t.sci.frame = none ∧ t.sci.tdrFull = false ∧
    t.sci.preamble = false ∧ t.spi.readMask = 0 ∧ t.spi.left = 0 ∧ t.adc.active = false

/-- A reset is due where the pin is low, the clock monitor or the COP has failed, in this order. One that is
due at the boundary is taken there whatever the CPU is doing, and one that falls due in the cycles of an
instruction, a trap, an entry or the end of a wait or a stop takes the place of their effect. It sets S, X and
I, keeps EEPROM and external memory, takes the mode of the pins on a pin reset and the old mode on the others,
and loads PC from the vector of its cause. A failure of the clock counts only while CME, or FCME since the
last reset, enables the monitor (60 R476, 70 R520, R521, R523, R524; that the mode is latched on a pin reset
only is R520's step, which log 16 reads together with R521 and 92 D24). That a reset which falls due in the
cycles counted leaves out the whole effect is the model's choice (log 16), and so is that the EEPROM is kept
also where EEPGM = 1 and a command is under way, which the reset then drops (log 27). -/
def Obligations.ResetAtOnce : Prop :=
  (∀ s : State,
    (s.env.pins.reset = false → resetCause s = some .pin) ∧
    (s.env.pins.reset = true → s.clockFail = true → resetCause s = some .clockMonitor) ∧
    (s.env.pins.reset = true → s.clockFail = false → s.copFail = true → resetCause s = some .cop) ∧
    (s.env.pins.reset = true → s.clockFail = false → s.copFail = false → resetCause s = none) ∧
    applyEvent .clockFail s =
      { s with clockFail := s.clockFail || (bit s.sys.option 3 || s.sys.forcedCm) }) ∧
  (∀ (c : ResetCause) (s : State), wasReset c s (takeReset c s)) ∧
  (∀ (s : State) (c : ResetCause), resetCause (boundary s) = some c →
    step s = .next (takeReset c (boundary s))) ∧
  (∀ (s u t : State) (c : ResetCause), resetCause (boundary s) = none → resetCause t = some c →
    u = { boundary s with inhibit := false } →
    ((u.run = .running ∧ recognise (boundary s) = none ∧
        ((∃ i rest, decode (fetch u).1 = .ok (i, rest) ∧ t = spend (cycles i) (fetch u).2) ∨
          (∃ e, decode (fetch u).1 = .error e ∧ t = spend 14 (fetch u).2))) ∨
      (u.run = .running ∧ (∃ r, recognise (boundary s) = some r) ∧ t = spend 14 u) ∨
      (u.run = .waiting ∧ (∃ r, recognise (boundary s) = some r) ∧ t = spend 2 u) ∨
      (u.run = .stopped ∧
        ((u.env.pins.xirq = false ∧ u.ccr.x = false) ∨
          (u.env.pins.xirq = true ∧ u.ccr.i = false ∧ irqRequested u = true)) ∧
        t = spend 14 { u with
          run := .running, owed := u.owed + (if bit u.sys.option 4 then Config.stopDelay else 0) })) →
    step s = .next (takeReset c t))

/-! ### Devices and control registers -/

/-- A write to TFLG1 or TFLG2 clears the flags written with ones, keeps the others, and writes nothing
else. Reading SCSR and then SCDR clears RDRF, IDLE, OR, NF and FE, writing SCDR instead clears TDRE and TC;
reading or writing SPDR after SPSR clears SPIF and WCOL, which a write in a transfer sets again, writing SPCR
instead clears MODF. A read of one of these four registers gives its value, changes the flags and the record of
those seen, and nothing else (10 R63, R65, R69, R70, R74, R75; log 25 for MODF and for WCOL set again). -/
def Obligations.FlagClearing : Prop :=
  (∀ (s t : State) (a : Word) (v : Byte), t = writeByte a v s →
    (resolve s a = .reg 0x23 → t = { s with timer := t.timer } ∧
      t.timer = { s.timer with tflg1 := t.timer.tflg1 } ∧
      ∀ k, k < 8 → bit t.timer.tflg1 k = (bit s.timer.tflg1 k && !bit v k)) ∧
    (resolve s a = .reg 0x25 → t = { s with timer := t.timer } ∧
      t.timer = { s.timer with tflg2 := t.timer.tflg2 } ∧
      ∀ k, k < 8 → bit t.timer.tflg2 k = (bit s.timer.tflg2 k && !bit v k))) ∧
  (∀ (s t : State) (a b : Word) (v : Byte), t = (readByte a s).2 →
    (resolve s a = .reg 0x2E → resolve s b = .reg 0x2F →
      (readByte a s).1 = s.sci.scsr ∧ (readByte b t).1 = s.sci.rdr ∧
      (readByte b t).2.sci.scsr = s.sci.scsr &&& 0xC1 ∧
      (writeByte b v t).sci.scsr = s.sci.scsr &&& 0x3F ∧ (writeByte b v t).sci.tdr = v) ∧
    (resolve s a = .reg 0x29 → resolve s b = .reg 0x2A →
      (readByte a s).1 = s.spi.spsr ∧ (readByte b t).1 = s.spi.rdBuf ∧
      (readByte b t).2.spi.spsr = s.spi.spsr &&& 0x3F ∧
      (writeByte b v t).spi.spsr = s.spi.spsr &&& 0x3F ||| (if s.spi.left = 0 then 0 else 0x40)) ∧
    (resolve s a = .reg 0x29 → resolve s b = .reg 0x28 →
      (writeByte b v t).spi.spsr = s.spi.spsr &&& 0xEF ∧ (writeByte b v t).spi.spcr = v)) ∧
  (∀ (s : State) (a : Word),
    (resolve s a = .reg 0x29 →
      readByte a s = (s.spi.spsr, { s with spi := { s.spi with readMask := s.spi.spsr } })) ∧
    (resolve s a = .reg 0x2A → readByte a s = (s.spi.rdBuf, { s with spi := { s.spi with
      spsr := s.spi.spsr &&& ~~~(s.spi.readMask &&& 0xC0), readMask := s.spi.readMask &&& 0x3F } })) ∧
    (resolve s a = .reg 0x2E →
      readByte a s = (s.sci.scsr, { s with sci := { s.sci with readMask := s.sci.scsr } })) ∧
    (resolve s a = .reg 0x2F → readByte a s = (s.sci.rdr, { s with sci := { s.sci with
      scsr := s.sci.scsr &&& ~~~(s.sci.readMask &&& 0x3E), readMask := s.sci.readMask &&& 0xC1 } })))

/-- TCNT counts once in P cycles, P = 1, 4, 8 or 16 by PR, from whatever phase, and its compares and flags
change at a count only; the wrap to $0000 sets TOF; a count that reaches the register of OC1 to OC4, or of OC5
where I4/O5 = 0, sets its flag and takes its pin action, OC1's last. The gated pulse accumulator counts every
64 cycles of its enabling level, PAOVF at the wrap. RTIF is set at each multiple of 2^13 times 2^RTR cycles
since reset; the COP, unless disabled, fails at a multiple of 2^15 at which n times 2^15 cycles have passed
since it was cleared, which $55 and then $AA in COPRST do. CFORC takes the pin actions of the compares it
names, OC1's last, and sets no flag (10 R53, R82, 60 R470, R471, R474, R475, R477; order of the compares and a
phase beyond a rewritten P, log 22; the phase of a closed gate, log 23). -/
def Obligations.TimersCount : Prop :=
  (∀ (s t : State) (pr p : Nat), (pr, p) ∈ [(0, 1), (1, 4), (2, 8), (3, 16)] →
    s.timer.tmsk2.toNat % 4 = pr →
    (∀ n, n < max 1 (p - s.timer.phase) → t = advance n s →
      t.timer.tcnt = s.timer.tcnt ∧ t.timer.tflg1 = s.timer.tflg1 ∧ t.timer.ocOut = s.timer.ocOut ∧
        bit t.timer.tflg2 7 = bit s.timer.tflg2 7) ∧
    (t = advance (max 1 (p - s.timer.phase)) s →
      t.timer.tcnt = s.timer.tcnt + 1 ∧ t.timer.phase = 0 ∧
      bit t.timer.tflg2 7 = (bit s.timer.tflg2 7 || decide (s.timer.tcnt = 0xFFFF)) ∧
      t.timer.tflg1 &&& 0x07 = s.timer.tflg1 &&& 0x07 ∧
      ∀ (k om : Nat) (reg : Word) (compares : Bool),
        (k, om, reg, compares) ∈
          [(7, 0, s.timer.toc1, true), (6, s.timer.tctl1.toNat / 64, s.timer.toc2, true),
           (5, s.timer.tctl1.toNat / 16 % 4, s.timer.toc3, true),
           (4, s.timer.tctl1.toNat / 4 % 4, s.timer.toc4, true),
           (3, s.timer.tctl1.toNat % 4, s.timer.ti4o5, !bit s.timer.pactl 2)] →
        bit t.timer.tflg1 k =
          (bit s.timer.tflg1 k || (compares && decide (s.timer.tcnt + 1 = reg))) ∧
        bit t.timer.ocOut k =
          if s.timer.tcnt + 1 = s.timer.toc1 ∧ bit s.timer.oc1m k = true then bit s.timer.oc1d k
          else if compares = true ∧ s.timer.tcnt + 1 = reg then
            (if om = 1 then !bit s.timer.ocOut k else if om = 2 then false
             else if om = 3 then true else bit s.timer.ocOut k)
          else bit s.timer.ocOut k)) ∧
  (∀ (s t : State) (gate : Bool), t = tick s →
    gate = (bit s.timer.pactl 6 && bit s.timer.pactl 5 && (bit s.env.pins.pa 7 != bit s.timer.pactl 4)) →
    (gate = true → s.timer.paPhase < 63 → t.timer.paPhase = s.timer.paPhase + 1) ∧
    (gate = true → 63 ≤ s.timer.paPhase → t.timer.paPhase = 0 ∧ t.timer.pacnt = s.timer.pacnt + 1 ∧
      bit t.timer.tflg2 5 = (bit s.timer.tflg2 5 || decide (s.timer.pacnt = 0xFF))) ∧
    (gate = false → t.timer.paPhase = s.timer.paPhase) ∧
    (gate = false ∨ s.timer.paPhase < 63 → t.timer.pacnt = s.timer.pacnt ∧
      bit t.timer.tflg2 5 = bit s.timer.tflg2 5)) ∧
  (∀ s : State,
    bit (tick s).timer.tflg2 6 =
      (bit s.timer.tflg2 6 || decide ((s.cycles + 1) % (8192 * 2 ^ (s.timer.pactl.toNat % 4)) = 0)) ∧
    ((tick s).copFail = true ↔ s.copFail = true ∨
      (bit s.sys.config 2 = false ∧ (s.cycles + 1) % 32768 = 0 ∧
        4 ^ (s.sys.option.toNat % 4) * 32768 ≤ s.cop.count + 1))) ∧
  (∀ (s t : State) (a : Word) (v : Byte), t = writeByte a v s →
    (resolve s a = .reg 0x3A →
      (v = 0x55 → t = { s with cop := { s.cop with armed := true } }) ∧
      (v = 0xAA → s.cop.armed = true → t = { s with cop := { armed := false, count := 0 } }) ∧
      (v ≠ 0x55 → v ≠ 0xAA ∨ s.cop.armed = false → t = s)) ∧
    (resolve s a = .reg 0x0B →
      t = { s with timer := { s.timer with ocOut := t.timer.ocOut } } ∧
      ∀ k om : Nat,
        (k, om) ∈ [(7, 0), (6, s.timer.tctl1.toNat / 64), (5, s.timer.tctl1.toNat / 16 % 4),
          (4, s.timer.tctl1.toNat / 4 % 4),
          (3, if bit s.timer.pactl 2 then 0 else s.timer.tctl1.toNat % 4), (2, 0), (1, 0), (0, 0)] →
        bit t.timer.ocOut k =
          if bit v 7 = true ∧ bit s.timer.oc1m k = true then bit s.timer.oc1d k
          else if bit v k = true then
            (if om = 1 then !bit s.timer.ocOut k else if om = 2 then false
             else if om = 3 then true else bit s.timer.ocOut k)
          else bit s.timer.ocOut k))

/-- The protected registers. In a normal mode the first write, in the window, is taken whole; a later write or
one after the window keeps the protected bits and writes the others. In a special mode every write is taken.
CLK4X of OPT2 takes the first write in a normal mode, with no window, and every write in a special one.
Nothing else changes (10 R64, R78, R80, R81, R85, R94). The model's choices, where the spec is silent, are:
that "once" is per register and a write in a special mode uses it up (log 20); where the window ends (log 10);
and, of what does not change, that a write of PR keeps the phase of the prescaler (log 22), and that a write
of BPROT leaves an EEPROM command under way as it is (log 27). -/
def Obligations.WriteOnce : Prop :=
  ∀ (s t : State) (a : Word) (v : Byte), t = writeByte a v s →
    (resolve s a = .reg 0x39 →
      t = { s with sys := { s.sys with
        option := t.sys.option, wroteOption := true, forcedCm := s.sys.forcedCm || bit t.sys.option 2 } } ∧
      (s.smod = true → t.sys.option = v) ∧
      (s.smod = false → s.sys.wroteOption = false → s.cycles + s.owed ≤ 64 → t.sys.option = v) ∧
      (s.smod = false → s.sys.wroteOption = true ∨ 64 < s.cycles + s.owed →
        t.sys.option &&& 0x37 = s.sys.option &&& 0x37 ∧ t.sys.option &&& 0xC8 = v &&& 0xC8)) ∧
    (resolve s a = .reg 0x3D →
      t = { s with sys := { s.sys with init := t.sys.init, wroteInit := true } } ∧
      (s.smod = true → t.sys.init = v) ∧
      (s.smod = false → s.sys.wroteInit = false → s.cycles + s.owed ≤ 64 → t.sys.init = v) ∧
      (s.smod = false → s.sys.wroteInit = true ∨ 64 < s.cycles + s.owed →
        t.sys.init = s.sys.init)) ∧
    (resolve s a = .reg 0x24 →
      t = { s with timer := { s.timer with tmsk2 := t.timer.tmsk2 },
                   sys := { s.sys with wroteTmsk2 := true } } ∧
      t.timer.tmsk2 &&& 0xF0 = v &&& 0xF0 ∧ t.timer.tmsk2 &&& 0x0C = 0 ∧
      (s.smod = true → t.timer.tmsk2 &&& 0x03 = v &&& 0x03) ∧
      (s.smod = false → s.sys.wroteTmsk2 = false → s.cycles + s.owed ≤ 64 →
        t.timer.tmsk2 &&& 0x03 = v &&& 0x03) ∧
      (s.smod = false → s.sys.wroteTmsk2 = true ∨ 64 < s.cycles + s.owed →
        t.timer.tmsk2 &&& 0x03 = s.timer.tmsk2 &&& 0x03)) ∧
    (resolve s a = .reg 0x35 →
      t = { s with ee := { s.ee with bprot := t.ee.bprot }, sys := { s.sys with wroteBprot := true } } ∧
      (s.smod = true → t.ee.bprot = v &&& 0x1F) ∧
      (s.smod = false → s.sys.wroteBprot = false → s.cycles + s.owed ≤ 64 → t.ee.bprot = v &&& 0x1F) ∧
      (s.smod = false → s.sys.wroteBprot = true ∨ 64 < s.cycles + s.owed →
        t.ee.bprot = (s.ee.bprot ||| v) &&& 0x1F)) ∧
    (resolve s a = .reg 0x38 →
      t = { s with sys := { s.sys with opt2 := t.sys.opt2, wroteClk4x := true } } ∧
      t.sys.opt2 &&& 0xC0 = v &&& 0xC0 ∧ t.sys.opt2 &&& 0x1F = 0 ∧
      (s.smod = true ∨ s.sys.wroteClk4x = false → t.sys.opt2 &&& 0x20 = v &&& 0x20) ∧
      (s.smod = false → s.sys.wroteClk4x = true → t.sys.opt2 &&& 0x20 = s.sys.opt2 &&& 0x20))

/-- HPRIO: in a normal mode RBOOT and SMOD cannot be written and MDA only once; PSEL is written only while
I = 1; IRV keeps what is written; nothing but HPRIO and the latch of the one write of MDA changes (10 R84, 60
R433; which write is the first, log 20). -/
def Obligations.HprioWrites : Prop :=
  ∀ (s t : State) (a : Word) (v : Byte), resolve s a = .reg 0x3C → t = writeByte a v s →
    (s.ccr.i = false → t.sys.hprio.toNat % 16 = s.sys.hprio.toNat % 16) ∧
    (s.ccr.i = true → t.sys.hprio.toNat % 16 = v.toNat % 16) ∧
    bit t.sys.hprio 4 = bit v 4 ∧
    (s.smod = false → t.smod = false ∧ t.rboot = s.rboot ∧ t.sys.wroteMda = true ∧
      t.mda = if s.sys.wroteMda then s.mda else bit v 5) ∧
    (s.smod = true → t.smod = bit v 6 ∧ t.mda = bit v 5 ∧ t.rboot = (bit v 7 && bit v 6)) ∧
    t = { s with sys := { s.sys with hprio := t.sys.hprio, wroteMda := t.sys.wroteMda } }

/-- What a read at an address that leads to a register gives after a byte has been written there, whatever the
mode and the state: all bits, or the bits the spec lets be written with the others as it fixes them. Such a
write changes the field of that register and nothing else, but for SPCR and SCCR2, which also end an exchange,
clear MODF as seen and queue a preamble; a write to a reserved or read-only register, TCNT in every mode among
them, changes nothing. Every register whose value the spec gives, but those of FlagClearing, reads as the
field that holds it, and that read changes nothing. A port register stores a write in its latch and reads, bit
by bit, the latch where its direction is output and the pin where it is input; a port A bit the timer is
connected to reads the compare level instead of the latch, from that moment on (log 21); a wired-OR port does
not drive a one. The A/D results read so while ADPU = 1 (log 26) (10 R41 to R93, 60 R490, 92 D13). The model's
choices, where the spec is silent, are: that a write of PACNT sets no flag, and that one of PACNT or PACTL
keeps the phase of the divider by 64 (log 23); that one of BAUD, SCCR1 or SCCR2 neither cuts a frame under way
nor changes its cycles, and that clearing TE keeps what is queued (log 24); that one of SPCR ends an exchange
where it clears SPE or MSTR, and that one of SPR keeps its cycles (log 25); that one of a compare register
which TCNT has already reached sets no flag (log 22); that one of TCTL1 or OC1M keeps the compare levels (log
21), and one of SCCR1 writes R8 (log 19). -/
def Obligations.RegisterReadBack : Prop :=
  (∀ (s : State) (a : Word) (off : Nat) (v : Byte), resolve s a = .reg off →
    (∀ keep : Byte,
      (off, keep) ∈
        [(0x01, 0xFF#8), (0x03, 0xFF), (0x07, 0xFF), (0x09, 0x3F), (0x0C, 0xF8), (0x0D, 0xF8),
         (0x16, 0xFF), (0x17, 0xFF), (0x18, 0xFF), (0x19, 0xFF), (0x1A, 0xFF), (0x1B, 0xFF),
         (0x1C, 0xFF), (0x1D, 0xFF), (0x1E, 0xFF), (0x1F, 0xFF), (0x20, 0xFF), (0x21, 0xFF),
         (0x22, 0xFF), (0x26, 0x77), (0x27, 0xFF), (0x28, 0xFF), (0x2B, 0x37), (0x2C, 0xD8),
         (0x2D, 0xFF), (0x30, 0x3F), (0x5C, 0xFF), (0x5D, 0xFF), (0x5E, 0xFC), (0x5F, 0xDF)] →
      (readByte a (writeByte a v s)).1 = v &&& keep) ∧
    (off ∈ [0x0A, 0x0E, 0x0F, 0x10, 0x11, 0x12, 0x13, 0x14, 0x15, 0x29, 0x2E, 0x31, 0x32, 0x33, 0x34,
            0x36, 0x37, 0x3E] ∨ (0x40 ≤ off ∧ off ≤ 0x5B) ∨ (0x60 ≤ off ∧ off ≤ 0x7F) →
      writeByte a v s = s) ∧
    (off = 0x3F → s.smod = true → (readByte a (writeByte a v s)).1 = v ||| 0x0A) ∧
    (off = 0x3F → s.smod = false → s.eelat = false → writeByte a v s = s)) ∧
  (∀ (s : State) (a : Word) (off : Nat) (v : Byte), resolve s a = .reg off →
    (∀ p : Ports,
      (off, p) ∈ [(0x00, { s.ports with a := v }), (0x01, { s.ports with ddra := v }),
        (0x02, { s.ports with g := v }), (0x03, { s.ports with ddrg := v }),
        (0x04, { s.ports with b := v }), (0x05, { s.ports with f := v }),
        (0x06, { s.ports with c := v }), (0x07, { s.ports with ddrc := v }),
        (0x08, { s.ports with d := v &&& 0x3F }), (0x09, { s.ports with ddrd := v &&& 0x3F })] →
      writeByte a v s = { s with ports := p }) ∧
    (∀ t : Timer,
      (off, t) ∈ [(0x0C, { s.timer with oc1m := v &&& 0xF8 }), (0x0D, { s.timer with oc1d := v &&& 0xF8 }),
        (0x16, { s.timer with toc1 := mk16 v (lo8 s.timer.toc1) }),
        (0x17, { s.timer with toc1 := mk16 (hi8 s.timer.toc1) v }),
        (0x18, { s.timer with toc2 := mk16 v (lo8 s.timer.toc2) }),
        (0x19, { s.timer with toc2 := mk16 (hi8 s.timer.toc2) v }),
        (0x1A, { s.timer with toc3 := mk16 v (lo8 s.timer.toc3) }),
        (0x1B, { s.timer with toc3 := mk16 (hi8 s.timer.toc3) v }),
        (0x1C, { s.timer with toc4 := mk16 v (lo8 s.timer.toc4) }),
        (0x1D, { s.timer with toc4 := mk16 (hi8 s.timer.toc4) v }),
        (0x1E, { s.timer with ti4o5 := mk16 v (lo8 s.timer.ti4o5) }),
        (0x1F, { s.timer with ti4o5 := mk16 (hi8 s.timer.ti4o5) v }),
        (0x20, { s.timer with tctl1 := v }), (0x21, { s.timer with tctl2 := v }),
        (0x22, { s.timer with tmsk1 := v }), (0x26, { s.timer with pactl := v &&& 0x77 }),
        (0x27, { s.timer with pacnt := v })] →
      writeByte a v s = { s with timer := t }) ∧
    (∀ c : Sci,
      (off, c) ∈ [(0x2B, { s.sci with baud := v &&& 0x37 }), (0x2C, { s.sci with sccr1 := v &&& 0xD8 }),
        (0x2D, { s.sci with sccr2 := v, preamble := s.sci.preamble || (bit v 3 && !bit s.sci.sccr2 3) })] →
      writeByte a v s = { s with sci := c }) ∧
    (∀ y : Sys,
      (off, y) ∈ [(0x5C, { s.sys with csstrh := v }), (0x5D, { s.sys with csctl := v }),
        (0x5E, { s.sys with csgadr := v &&& 0xFC }), (0x5F, { s.sys with csgsiz := v &&& 0xDF })] →
      writeByte a v s = { s with sys := y }) ∧
    (off = 0x28 → writeByte a v s = { s with spi := { s.spi with
      spcr := v, spsr := s.spi.spsr &&& ~~~(s.spi.readMask &&& 0x10), readMask := s.spi.readMask &&& 0xEF
      left := if bit v 6 && bit v 4 then s.spi.left else 0 } })) ∧
  (∀ (s : State) (a : Word) (k : Nat), k < 8 →
    (∀ (off : Nat) (name : PortName) (ddr latch pins : Byte) (wiredOr : Bool),
      (off, name, ddr, latch, pins, wiredOr) ∈
        [(0x02, PortName.g, s.ports.ddrg, s.ports.g, s.env.pins.pg, bit s.sys.opt2 7),
         (0x06, .c, s.ports.ddrc, s.ports.c, s.env.pins.pc, bit s.sys.opt2 6),
         (0x08, .d, s.ports.ddrd, s.ports.d, s.env.pins.pd, bit s.spi.spcr 5 && decide (2 ≤ k))] →
      resolve s a = .reg off → (s.mda = true → off ≠ 0x06 ∧ (off = 0x02 → k < 7)) → (off = 0x08 → k < 6) →
      bit (readByte a s).1 k = (if bit ddr k then bit latch k else bit pins k) ∧
      pinOut s name k =
        (if bit ddr k = true ∧ (wiredOr = true → bit latch k = false) then some (bit latch k) else none)) ∧
    (∀ om : Nat,
      (k, om) ∈ [(7, 0), (6, s.timer.tctl1.toNat / 64), (5, s.timer.tctl1.toNat / 16 % 4),
        (4, s.timer.tctl1.toNat / 4 % 4),
        (3, if bit s.timer.pactl 2 then 0 else s.timer.tctl1.toNat % 4), (2, 0), (1, 0), (0, 0)] →
      resolve s a = .reg 0x00 → bit (readByte a s).1 k =
        if bit s.ports.ddra k = true ∨ (4 ≤ k ∧ om ≠ 0) then
          (if bit s.timer.oc1m k = true ∨ om ≠ 0 then bit s.timer.ocOut k else bit s.ports.a k)
        else bit s.env.pins.pa k)) ∧
  (∀ (s : State) (a : Word) (off : Nat) (w : Byte), resolve s a = .reg off →
    ((off, w) ∈ [(0x04, s.ports.b), (0x05, s.ports.f)] → s.mda = false → (readByte a s).1 = w) ∧
    ((off, w) ∈ [(0x0A, s.env.pins.pe), (0x0B, 0), (0x0E, hi8 s.timer.tcnt), (0x0F, lo8 s.timer.tcnt),
      (0x10, hi8 s.timer.tic1), (0x11, lo8 s.timer.tic1), (0x12, hi8 s.timer.tic2),
      (0x13, lo8 s.timer.tic2), (0x14, hi8 s.timer.tic3), (0x15, lo8 s.timer.tic3),
      (0x01, s.ports.ddra), (0x03, s.ports.ddrg), (0x07, s.ports.ddrc), (0x09, s.ports.ddrd),
      (0x0C, s.timer.oc1m), (0x0D, s.timer.oc1d), (0x16, hi8 s.timer.toc1), (0x17, lo8 s.timer.toc1),
      (0x18, hi8 s.timer.toc2), (0x19, lo8 s.timer.toc2), (0x1A, hi8 s.timer.toc3),
      (0x1B, lo8 s.timer.toc3), (0x1C, hi8 s.timer.toc4), (0x1D, lo8 s.timer.toc4),
      (0x1E, hi8 s.timer.ti4o5), (0x1F, lo8 s.timer.ti4o5), (0x20, s.timer.tctl1), (0x21, s.timer.tctl2),
      (0x22, s.timer.tmsk1), (0x23, s.timer.tflg1), (0x24, s.timer.tmsk2), (0x25, s.timer.tflg2),
      (0x26, s.timer.pactl), (0x27, s.timer.pacnt), (0x28, s.spi.spcr), (0x2B, s.sci.baud),
      (0x2C, s.sci.sccr1), (0x2D, s.sci.sccr2), (0x30, s.adc.adctl), (0x35, s.ee.bprot),
      (0x38, s.sys.opt2), (0x39, s.sys.option), (0x3B, s.ee.pprog), (0x3C, s.sys.hprio),
      (0x3D, s.sys.init), (0x3F, s.sys.config), (0x5C, s.sys.csstrh), (0x5D, s.sys.csctl),
      (0x5E, s.sys.csgadr), (0x5F, s.sys.csgsiz)] →
      readByte a s = (w, s)) ∧
    ((off, w) ∈ [(0x31, s.adc.adr1), (0x32, s.adc.adr2), (0x33, s.adc.adr3), (0x34, s.adc.adr4)] →
      bit s.sys.option 7 = true → readByte a s = (w, s)) ∧
    (off = 0x08 → (readByte a s).1 &&& 0xC0 = 0))

/-- The EEPROM protocol. BPROT's bits protect the blocks of 10 R78. While EELAT = 1 a write to the array or
to CONFIG is latched; EEPGM is taken only where EELAT was 1, and clearing EELAT empties the latch. Ending a
command (PPROG written with 0 while EEPGM = 1): programming leaves old and data in the latched byte, byte,
row and bulk erase leave $FF in the selected unit, a protected byte and every other byte is unchanged, and
all of them where the latched address is protected. With CONFIG latched and PTCON = 0 programming ands the
data into the cells and a bulk erase leaves $FF in them; the register keeps its value until a reset (10
R78, R83, R87, 20 R144, R158, 60 R495, R496; when the command takes effect, that it is the one PPROG, the
latches and BPROT describe then, also where they were rewritten while EEPGM = 1, and that a bulk erase through
CONFIG clears the unprotected array too are the model's choices, log 27; CONFIG, log 28). -/
def Obligations.EepromCommand : Prop :=
  (∀ (s t : State) (a : Word) (off : Nat) (data old : Byte),
    resolve s a = .reg 0x3B → bit s.ee.pprog 0 = true → s.ee.latch = some (.array off, data) →
    off < 512 → s.mem.get .eeprom off = some old → t = writeByte a 0 s →
    t.ee.latch = none ∧ t.sys.configCells = s.sys.configCells ∧
    ∀ k, k < 512 → t.mem.get .eeprom k =
      if s.ee.protects k || s.ee.protects off then s.mem.get .eeprom k
      else if bit s.ee.pprog 2 = false then
        (if k = off then some (old &&& data) else s.mem.get .eeprom k)
      else if bit s.ee.pprog 4 = true then (if k = off then some 0xFF else s.mem.get .eeprom k)
      else if bit s.ee.pprog 3 = true then
        (if k / 16 = off / 16 then some 0xFF else s.mem.get .eeprom k)
      else some 0xFF) ∧
  (∀ (e : EeCtl) (k lo hi n : Nat),
    (lo, hi, n) ∈ [(0x000, 0x01F, 0), (0x020, 0x05F, 1), (0x060, 0x0DF, 2), (0x0E0, 0x1FF, 3)] →
    lo ≤ k → k ≤ hi → e.protects k = bit e.bprot n) ∧
  (∀ (s t : State) (a : Word) (v : Byte), t = writeByte a v s →
    (∀ off, resolve s a = .mem .eeprom off → s.eelat = true →
      t = { s with ee := { s.ee with latch := some (.array off, v) } }) ∧
    (resolve s a = .reg 0x3F → s.eelat = true →
      t = { s with ee := { s.ee with latch := some (.config, v) },
                   sys := { s.sys with config := if s.smod then v ||| 0x0A else s.sys.config } }) ∧
    (resolve s a = .reg 0x3B →
      t.ee = { s.ee with
        pprog := v &&& (if s.eelat then 0x1F else 0x1E)
        latch := if bit v 1 then s.ee.latch else none } ∧
      (bit s.ee.pprog 0 = false ∨ s.ee.latch = none ∨ bit t.ee.pprog 0 = true →
        t = { s with ee := t.ee }))) ∧
  (∀ (s t : State) (a : Word) (data : Byte),
    resolve s a = .reg 0x3B → bit s.ee.pprog 0 = true → s.ee.latch = some (.config, data) →
    t = writeByte a 0 s →
    t.ee = { s.ee with pprog := 0, latch := none } ∧
    t.sys = { s.sys with configCells := t.sys.configCells } ∧
    t.sys.configCells =
      (if bit s.ee.bprot 4 = true then s.sys.configCells
       else if bit s.ee.pprog 2 = false then s.sys.configCells &&& data
       else if bit s.ee.pprog 4 = true ∨ bit s.ee.pprog 3 = true then s.sys.configCells
       else 0xFF) ∧
    ∀ k, k < 512 → t.mem.get .eeprom k =
      if bit s.ee.bprot 4 = false ∧ bit s.ee.pprog 2 = true ∧ bit s.ee.pprog 4 = false ∧
        bit s.ee.pprog 3 = false ∧ s.ee.protects k = false then some 0xFF
      else s.mem.get .eeprom k)

/-- SCI: a character received while RE = 1, RWU = 0 goes to SCDR with RDRF, NF and FE, or overruns where RDRF
is still set; nothing is received while RE = 0 or in a stop. With RWU = 1 a character whose most significant
data bit is 1 clears RWU and is received where WAKE = 1, and every other one is lost; an idle line clears RWU
where WAKE = 0. It sets IDLE where RWU = 0 and the line has been active. A full SCDR is taken by a free shift
register while SBK = 0, which sets TDRE and takes 10 or 11 bit times; the character goes out when they have
passed, and TC is set where nothing follows it, else the next frame starts at once. While SBK = 1 a free shift
register takes a break and leaves SCDR and the flags as they are. A write of SCDR makes the transmit register
full, one of SCCR2 that sets TE queues a preamble, which a free shift register takes before a character (10
R71 to R75, 60 R480, R481). The model's choices are, by log 24: that a character lost to RWU or to an overrun
sets the activity that IDLE needs, where R481 says that nothing happens or that the byte is lost, and that an
idle line clears it whatever RWU and WAKE are; that with M = 1 the ninth bit is the most significant; that a
frame under way runs to its end with TE = 0 too, is an output then and sets TC; that a break takes as long as
a character, 10 or 11 bit times, and goes before a queued preamble, and that before a character; that T8, M
and BAUD are those of the moment when the shift register takes the character; that SCDR is written so while TE
= 0 too. That a character which arrives in a stop is lost is another (log 15), where 45 R412 says only that
the unit does not advance. -/
def Obligations.SciCharacters : Prop :=
  (∀ (s t : State) (d : Byte) (n f z : Bool), t = applyEvent (.sciRx d n f z) s →
    t = { s with sci := t.sci } ∧
    (bit s.sci.sccr2 2 = false ∨ s.run = .stopped → t = s) ∧
    (s.run ≠ .stopped → bit s.sci.sccr2 2 = true → bit s.sci.sccr2 1 = false →
      bit s.sci.scsr 5 = false →
      t.sci.rdr = d ∧ t.sci.rxActive = true ∧ bit t.sci.scsr 5 = true ∧
      bit t.sci.scsr 2 = (bit s.sci.scsr 2 || z) ∧
      bit t.sci.scsr 1 = (bit s.sci.scsr 1 || !f) ∧
      (bit s.sci.sccr1 4 = true → bit t.sci.sccr1 7 = n)) ∧
    (s.run ≠ .stopped → bit s.sci.sccr2 2 = true → bit s.sci.sccr2 1 = false →
      bit s.sci.scsr 5 = true →
      t.sci.rdr = s.sci.rdr ∧ t.sci.rxActive = true ∧ t.sci.scsr = s.sci.scsr ||| 0x08) ∧
    (s.run ≠ .stopped → bit s.sci.sccr2 2 = true → bit s.sci.sccr2 1 = true →
      (bit s.sci.sccr1 3 = false ∨ (if bit s.sci.sccr1 4 then n else bit d 7) = false →
        t.sci = { s.sci with rxActive := true }) ∧
      (bit s.sci.sccr1 3 = true → (if bit s.sci.sccr1 4 then n else bit d 7) = true →
        t = applyEvent (.sciRx d n f z)
          { s with sci := { s.sci with sccr2 := s.sci.sccr2 &&& 0xFD } }))) ∧
  (∀ s t : State, t = applyEvent .sciIdle s →
    (bit s.sci.sccr2 2 = false ∨ s.run = .stopped → t = s) ∧
    (s.run ≠ .stopped → bit s.sci.sccr2 2 = true → bit s.sci.sccr2 1 = false →
      t = { s with sci := { s.sci with
        rxActive := false, scsr := if s.sci.rxActive then s.sci.scsr ||| 0x10 else s.sci.scsr } }) ∧
    (s.run ≠ .stopped → bit s.sci.sccr2 2 = true → bit s.sci.sccr2 1 = true →
      t = { s with sci := { s.sci with
        rxActive := false
        sccr2 := if bit s.sci.sccr1 3 then s.sci.sccr2 else s.sci.sccr2 &&& 0xFD } })) ∧
  (∀ (s : State) (scp p : Nat), (scp, p) ∈ [(0, 1), (1, 3), (2, 4), (3, 13)] →
    s.sci.baud.toNat / 16 % 4 = scp → bit s.sci.sccr2 3 = true → s.sci.frame = none →
    (bit s.sci.sccr2 0 = true ∨ s.sci.preamble = true ∨ s.sci.tdrFull = true →
      (tick s).sci.left =
        16 * p * 2 ^ (s.sci.baud.toNat % 8) * (if bit s.sci.sccr1 4 then 11 else 10)) ∧
    (bit s.sci.sccr2 0 = false → s.sci.preamble = false → s.sci.tdrFull = true →
      (tick s).sci.frame =
        some (.char s.sci.tdr (if bit s.sci.sccr1 4 then some (bit s.sci.sccr1 6) else none)) ∧
      bit (tick s).sci.scsr 7 = true ∧ (tick s).sci.tdrFull = false) ∧
    (bit s.sci.sccr2 0 = false → s.sci.preamble = true →
      (tick s).sci = { s.sci with frame := some .preamble, left := (tick s).sci.left, preamble := false }) ∧
    (bit s.sci.sccr2 0 = true → (tick s).sci.frame = some .breakCode ∧
      (tick s).sci.tdr = s.sci.tdr ∧ (tick s).sci.tdrFull = s.sci.tdrFull ∧
      (tick s).sci.scsr = s.sci.scsr)) ∧
  (∀ (s : State) (d : Byte) (n : Option Bool), s.sci.frame = some (.char d n) → 0 < s.sci.left →
    Output.sciTx d n ∈ (advance s.sci.left s).env.outputs) ∧
  (∀ (s : State) (f : TxFrame), s.sci.frame = some f → s.sci.left = 1 →
    bit s.sci.sccr2 3 = false ∨
      (bit s.sci.sccr2 0 = false ∧ s.sci.preamble = false ∧ s.sci.tdrFull = false) →
    (tick s).sci = { s.sci with frame := none, left := 0, scsr := s.sci.scsr ||| 0x40 }) ∧
  (∀ (s t : State) (f : TxFrame), s.sci.frame = some f → s.sci.left = 1 → bit s.sci.sccr2 3 = true →
    bit s.sci.sccr2 0 = true ∨ s.sci.preamble = true ∨ s.sci.tdrFull = true →
    t = { s with sci := { s.sci with frame := none, left := 0 } } → (tick s).sci = (tick t).sci) ∧
  (∀ (s t : State) (a : Word) (v : Byte), t = writeByte a v s →
    (resolve s a = .reg 0x2F → t = { s with sci := { s.sci with
      tdr := v, tdrFull := true
      scsr := s.sci.scsr &&& ~~~(s.sci.readMask &&& 0xC0), readMask := s.sci.readMask &&& 0x3F } }) ∧
    (resolve s a = .reg 0x2D → bit s.sci.sccr2 3 = false → bit v 3 = true → t.sci.preamble = true))

/-- At a boundary the devices count the cycles owed, unless the clocks are stopped, and one event of the
environment, if one waits, is taken (60 R460, 92 D28; one a step, log 30); the level of an analog input and
the reply to the next SPI exchange are kept. The pins: a falling IRQ sets the edge latch where IRQE = 1, in a
stop too. Unless the clocks are stopped, the edges that TCTL2 selects of PA2, PA1, PA0 and, where I4/O5 = 1,
PA3 copy TCNT to TIC1, TIC2, TIC3 and TI4/O5 and set their flags, and no other change does; the selected edge
of PA7 sets PAIF and counts in event mode, PAOVF at the wrap, and no other change does; a falling SS with PD5
an input is a mode fault of a master, and nothing else changes the SPI (60 R431, R473, R477, R485). The
model's choices are: that in a stop such edges are lost, the timer and the SPI staying as they are (log 15,
where 45 R412 says only that the clocks are halted); that an edge of a port A pin acts whatever the direction
of the pin (logs 23, 30). -/
def Obligations.PinEvents : Prop :=
  (∀ (s t : State) (p : Pins), t = applyEvent (.pins p) s →
    t = { s with env := { s.env with pins := p }, irqEdge := t.irqEdge, timer := t.timer, spi := t.spi } ∧
    (bit s.sys.option 5 = true → s.env.pins.irq = true → p.irq = false → t.irqEdge = true) ∧
    (bit s.sys.option 5 = false ∨ s.env.pins.irq = false ∨ p.irq = true → t.irqEdge = s.irqEdge) ∧
    (s.run = .stopped → t.timer = s.timer ∧ t.spi = s.spi) ∧
    (s.run ≠ .stopped →
      t.timer = { s.timer with
        tic1 := t.timer.tic1, tic2 := t.timer.tic2, tic3 := t.timer.tic3, ti4o5 := t.timer.ti4o5
        tflg1 := t.timer.tflg1, tflg2 := t.timer.tflg2, pacnt := t.timer.pacnt } ∧
      t.timer.tflg1 &&& 0xF0 = s.timer.tflg1 &&& 0xF0 ∧
      (∀ (sel k : Nat) (before after : Word) (edge : Bool),
        (sel, k, before, after) ∈
          [(s.timer.tctl2.toNat / 16 % 4, 2, s.timer.tic1, t.timer.tic1),
           (s.timer.tctl2.toNat / 4 % 4, 1, s.timer.tic2, t.timer.tic2),
           (s.timer.tctl2.toNat % 4, 0, s.timer.tic3, t.timer.tic3),
           (if bit s.timer.pactl 2 then s.timer.tctl2.toNat / 64 else 0, 3,
             s.timer.ti4o5, t.timer.ti4o5)] →
        edge = ((decide (sel = 1 ∨ sel = 3) && !bit s.env.pins.pa k && bit p.pa k) ||
          (decide (sel = 2 ∨ sel = 3) && bit s.env.pins.pa k && !bit p.pa k)) →
        after = (if edge then s.timer.tcnt else before) ∧
        bit t.timer.tflg1 k = (bit s.timer.tflg1 k || edge)) ∧
      (bit s.env.pins.pa 7 ≠ bit s.timer.pactl 4 → bit p.pa 7 = bit s.timer.pactl 4 →
        bit t.timer.tflg2 4 = true ∧
        (bit s.timer.pactl 6 = true → bit s.timer.pactl 5 = false →
          t.timer.pacnt = s.timer.pacnt + 1 ∧
          bit t.timer.tflg2 5 = (bit s.timer.tflg2 5 || decide (s.timer.pacnt = 0xFF))) ∧
        (bit s.timer.pactl 6 = false ∨ bit s.timer.pactl 5 = true →
          t.timer.pacnt = s.timer.pacnt ∧ bit t.timer.tflg2 5 = bit s.timer.tflg2 5)) ∧
      (bit s.env.pins.pa 7 = bit s.timer.pactl 4 ∨ bit p.pa 7 ≠ bit s.timer.pactl 4 →
        t.timer.pacnt = s.timer.pacnt ∧ t.timer.tflg2 = s.timer.tflg2) ∧
      (bit s.env.pins.pd 5 = true → bit p.pd 5 = false → bit s.ports.ddrd 5 = false →
        bit s.spi.spcr 4 = true → bit t.spi.spsr 4 = true ∧ t.spi.spcr = s.spi.spcr &&& 0xAF) ∧
      (bit s.env.pins.pd 5 = false ∨ bit p.pd 5 = true ∨ bit s.ports.ddrd 5 = true ∨
        bit s.spi.spcr 4 = false → t.spi = s.spi))) ∧
  (∀ s u : State, u = (if s.run = .stopped then s else advance s.owed { s with owed := 0 }) →
    (u.env.inputs = [] → boundary s = u) ∧
    (∀ e es, u.env.inputs = e :: es →
      boundary s = applyEvent e { u with env := { u.env with inputs := es } })) ∧
  (∀ (s : State) (v : Byte) (ch : Fin 8),
    applyEvent (.spiReply v) s = { s with env := { s.env with spiIn := v } } ∧
    applyEvent (.analog ch v) s = { s with env := { s.env with analog := s.env.analog.set ch v } } ∧
    applyEvent .idle s = s)

/-- A write of SPDR outside an exchange fills the shift register and, where SPE = MSTR = 1, starts an exchange
of eight periods of 2, 4, 16 or 32 cycles by SPR; one during an exchange sets WCOL and leaves the exchange
alone; both clear SPIF and WCOL as seen. A master exchange ends after its remaining cycles with SPIF set, the
environment's byte received and the byte of the shift register sent. A byte clocked in from outside is
exchanged so at once, where SPE = 1, MSTR = 0 and SS is low, and else nothing happens (10 R69, R70, 60 R485).
A write of ADCTL clears CCF and starts a sequence where ADPU = 1; after 128 cycles it has set CCF, the results
of the channels that MULT and CD to CA select are in ADR1 to ADR4, and it goes on only where SCAN = 1 (10 R76,
60 R488). A converter that is powered down (60 R454) does nothing; that this ends a sequence under way, that a
write of ADCTL then stores the control bits, that each result is the environment's value at the end of its
conversion, and that channels 12, 13 and 14 give $FF, $00 and $80 exactly, which 93 U7 calls nominal with any
value allowed, are the model's choices (log 26); and so is that a write of SPDR fills the shift register and
starts nothing where SPE = 0 or MSTR = 0, and that an exchange is seen as a whole, the byte received standing
in the shift register after it (log 25). -/
def Obligations.TransfersComplete : Prop :=
  (∀ s t : State, 0 < s.spi.left → t = advance s.spi.left s →
    bit t.spi.spsr 7 = true ∧ t.spi.rdBuf = s.env.spiIn ∧ t.spi.left = 0 ∧
      Output.spiXfer s.spi.shift ∈ t.env.outputs) ∧
  (∀ (s t : State) (a : Word) (v seen : Byte), resolve s a = .reg 0x2A → t = writeByte a v s →
    seen = s.spi.spsr &&& ~~~(s.spi.readMask &&& 0xC0) →
    (0 < s.spi.left → t = { s with spi := { s.spi with
      spsr := seen ||| 0x40, readMask := s.spi.readMask &&& 0x3F } }) ∧
    (∀ spr n : Nat, (spr, n) ∈ [(0, 2), (1, 4), (2, 16), (3, 32)] → s.spi.spcr.toNat % 4 = spr →
      s.spi.left = 0 → t = { s with spi := { s.spi with
        shift := v, spsr := seen, readMask := s.spi.readMask &&& 0x3F
        left := if bit s.spi.spcr 6 = true ∧ bit s.spi.spcr 4 = true then 8 * n else 0 } })) ∧
  (∀ (s t : State) (v : Byte), t = applyEvent (.spiSlave v) s →
    (s.run ≠ .stopped → bit s.spi.spcr 6 = true → bit s.spi.spcr 4 = false → bit s.env.pins.pd 5 = false →
      t = { s with
        spi := { s.spi with shift := v, rdBuf := v, left := 0, spsr := s.spi.spsr ||| 0x80 }
        env := { s.env with outputs := .spiXfer s.spi.shift :: s.env.outputs } }) ∧
    (s.run = .stopped ∨ bit s.spi.spcr 6 = false ∨ bit s.spi.spcr 4 = true ∨ bit s.env.pins.pd 5 = true →
      t = s)) ∧
  (∀ (s : State) (a : Word) (v : Byte), resolve s a = .reg 0x30 →
    writeByte a v s = { s with adc := { s.adc with
      adctl := v &&& 0x3F, active := bit s.sys.option 7, idx := 0, left := 32 } }) ∧
  (∀ s : State, bit s.sys.option 7 = false → (tick s).adc = { s.adc with active := false }) ∧
  (∀ s t : State, bit s.sys.option 7 = true → s.adc.active = true → s.adc.idx = 0 → s.adc.left = 32 →
    t = advance 128 s →
    t.adc.adctl = s.adc.adctl ||| 0x80 ∧ t.adc.active = bit s.adc.adctl 5 ∧ t.adc.idx = 0 ∧
    t.adc.left = 32 ∧
    ∀ (i ch : Nat) (r : Byte),
      (i, r) ∈ [(0, t.adc.adr1), (1, t.adc.adr2), (2, t.adc.adr3), (3, t.adc.adr4)] →
      ch = (if bit s.adc.adctl 4 then s.adc.adctl.toNat % 16 / 4 * 4 + i
        else s.adc.adctl.toNat % 16) →
      (∀ h : ch < 8, r = s.env.analog[ch]) ∧ (ch = 12 → r = 0xFF) ∧ (ch = 13 → r = 0) ∧
        (ch = 14 → r = 0x80))

end
end

