-- ==== Sys2Proof/Laws/Memory.lean ====
section
/-! SUPPORT.
The memory arrays: reading after a write, and the canonical form that every operation keeps.
-/

namespace Sys2Proof.Laws

open Sys2Proof.Machine

/-- A listed byte is read back; no other key is disturbed. -/
theorem cellAt_setCell (cs : List Host.Cell) (a k : Nat) (v : Byte) :
    cellAt (setCell cs a v) k = if k = a then some v else cellAt cs k := by
  induction cs with
  | nil => simp only [setCell, cellAt, eq_comm]
  | cons c cs ih =>
    obtain ⟨j, w⟩ := c
    simp only [setCell]
    by_cases h1 : a < j
    · by_cases h : k = a
      · subst h; simp [h1, cellAt]
      · simp [h1, cellAt, h, Ne.symm h]
    · by_cases h2 : a = j
      · subst h2
        by_cases h : k = a
        · subst h; simp [cellAt]
        · simp [cellAt, h, Ne.symm h]
      · by_cases h3 : j = k
        · subst h3; simp [h1, h2, cellAt, Ne.symm h2]
        · simp [h1, h2, cellAt, h3, ih]

/-- Dropped keys are not listed; no other key is disturbed. -/
theorem cellAt_dropCells (p : Nat → Bool) (cs : List Host.Cell) (k : Nat) :
    cellAt (dropCells p cs) k = if p k then none else cellAt cs k := by
  induction cs with
  | nil => simp [dropCells, cellAt]
  | cons c cs ih =>
    obtain ⟨j, w⟩ := c
    simp only [dropCells] at ih
    cases hp : p j <;> simp only [dropCells, List.filter_cons, hp, cellAt, Bool.not_true,
      Bool.not_false, if_true, if_false, Bool.false_eq_true]
    · by_cases h : j = k
      · subst h; simp [hp]
      · simp [h, ih]
    · by_cases h : j = k
      · subst h; simp [hp, ih]
      · simp [h, ih]

/-- A lower bound on the keys may be weakened. -/
theorem cellsWf_mono {u : Option Byte} {size lo lo' : Nat} (cs : List Host.Cell) (hl : lo' ≤ lo)
    (h : cellsWf u size lo cs = true) : cellsWf u size lo' cs = true := by
  cases cs with
  | nil => rfl
  | cons c cs =>
    simp only [cellsWf, Bool.and_eq_true, decide_eq_true_eq] at h ⊢
    exact ⟨⟨⟨by omega, h.1.1.2⟩, h.1.2⟩, h.2⟩

/-- Listing a byte keeps the canonical form. -/
theorem cellsWf_setCell {u : Option Byte} {size : Nat} {a : Nat} {v : Byte} (ha : a < size)
    (hv : u ≠ some v) (cs : List Host.Cell) : ∀ lo, lo ≤ a → cellsWf u size lo cs = true →
    cellsWf u size lo (setCell cs a v) = true := by
  induction cs with
  | nil =>
    intro lo hlo _
    simp [setCell, cellsWf, hlo, ha, hv]
  | cons c cs ih =>
    intro lo hlo h
    simp only [cellsWf, Bool.and_eq_true, decide_eq_true_eq] at h
    simp only [setCell]
    split
    · simp only [cellsWf, Bool.and_eq_true, decide_eq_true_eq]
      exact ⟨⟨⟨hlo, ha⟩, hv⟩, ⟨⟨by omega, h.1.1.2⟩, h.1.2⟩, h.2⟩
    · split
      · subst_vars
        simp only [cellsWf, Bool.and_eq_true, decide_eq_true_eq]
        exact ⟨⟨⟨hlo, ha⟩, hv⟩, h.2⟩
      · simp only [cellsWf, Bool.and_eq_true, decide_eq_true_eq]
        exact ⟨⟨⟨h.1.1.1, h.1.1.2⟩, h.1.2⟩, ih _ (by omega) h.2⟩

/-- Dropping cells keeps the canonical form. -/
theorem cellsWf_dropCells {u : Option Byte} {size : Nat} (p : Nat → Bool) (cs : List Host.Cell) :
    ∀ lo, cellsWf u size lo cs = true → cellsWf u size lo (dropCells p cs) = true := by
  induction cs with
  | nil => intro lo _; rfl
  | cons c cs ih =>
    intro lo h
    simp only [cellsWf, Bool.and_eq_true, decide_eq_true_eq] at h
    have ih' := ih _ h.2
    simp only [dropCells] at ih' ⊢
    rw [List.filter_cons]
    split
    · simp only [cellsWf, Bool.and_eq_true, decide_eq_true_eq]
      exact ⟨h.1, ih'⟩
    · exact cellsWf_mono _ (by omega) ih'

/-- The canonical form, array by array. -/
theorem memory_wf_iff (m : Memory) :
    m.wf = true ↔ ∀ r : Region, cellsWf r.unlisted r.size 0 (m.cells r) = true := by
  simp only [Memory.wf, Bool.and_eq_true]
  constructor
  · rintro ⟨⟨⟨h1, h2⟩, h3⟩, h4⟩ r
    cases r <;> assumption
  · intro h
    exact ⟨⟨⟨h .ram, h .eeprom⟩, h .boot⟩, h .ext⟩

@[simp] theorem cells_withCells (m : Memory) (cs : List Host.Cell) (r q : Region) :
    (m.withCells cs r).cells q = if q = r then cs else m.cells q := by
  cases r <;> cases q <;> rfl

/-- Replacing one array by a canonical one keeps the canonical form. -/
theorem wf_withCells {m : Memory} {cs : List Host.Cell} {r : Region} (h : m.wf = true)
    (hc : cellsWf r.unlisted r.size 0 cs = true) : (m.withCells cs r).wf = true := by
  rw [memory_wf_iff] at h ⊢
  intro q
  rw [cells_withCells]
  split
  · subst_vars; exact hc
  · exact h q

/-- A write keeps the canonical form. -/
theorem wf_put {m : Memory} (h : m.wf = true) (r : Region) (off : Nat) (v : Byte) :
    (m.put r off v).wf = true := by
  have hr := (memory_wf_iff m).1 h r
  unfold Memory.put
  split
  · exact h
  · split
    · exact wf_withCells h (cellsWf_dropCells _ _ _ hr)
    · exact wf_withCells h (cellsWf_setCell (by omega) (by assumption) _ _ (by omega) hr)

/-- Clearing a part of an array keeps the canonical form. -/
theorem wf_clearWhere {m : Memory} (h : m.wf = true) (r : Region) (p : Nat → Bool) :
    (m.clearWhere r p).wf = true :=
  wf_withCells h (cellsWf_dropCells _ _ _ ((memory_wf_iff m).1 h r))

/-- A byte written inside an array is read back; no other byte of any array is disturbed. -/
theorem get_put (m : Memory) (r q : Region) (off k : Nat) (v : Byte) (h : off < r.size) :
    (m.put r off v).get q k = if q = r ∧ k = off then some v else m.get q k := by
  have h' : ¬ r.size ≤ off := by omega
  unfold Memory.put Memory.get
  rw [if_neg h']
  by_cases hq : q = r
  · subst hq
    split
    · rename_i hu
      simp only [cells_withCells, if_true, cellAt_dropCells, beq_iff_eq, true_and]
      by_cases hk : k = off <;> simp [hk, hu]
    · simp only [cells_withCells, if_true, cellAt_setCell, true_and]
      by_cases hk : k = off <;> simp [hk]
  · split <;> simp [hq]

/-- A cleared byte holds what an unlisted one does; no other byte is disturbed. -/
theorem get_clearWhere (m : Memory) (r q : Region) (p : Nat → Bool) (k : Nat) :
    (m.clearWhere r p).get q k = if q = r ∧ p k = true then r.unlisted else m.get q k := by
  unfold Memory.clearWhere Memory.get
  by_cases hq : q = r
  · subst hq
    simp only [cells_withCells, if_true, cellAt_dropCells, true_and]
    cases hp : p k <;> simp
  · simp [hq]

end Sys2Proof.Laws
end

