-- ==== Sys2Proof/Laws/State.lean ====
section
/-! SUPPORT.
One lemma per field per named update of the state: which fields an update leaves alone. Later proofs
simplify with these and unfold no update.
-/

namespace Sys2Proof.Laws

open Sys2Proof.Machine

/-! Using a free value changes only the count of free values. -/

@[simp] theorem drawn_a (s : State) : s.drawn.a = s.a := rfl
@[simp] theorem drawn_b (s : State) : s.drawn.b = s.b := rfl
@[simp] theorem drawn_ix (s : State) : s.drawn.ix = s.ix := rfl
@[simp] theorem drawn_iy (s : State) : s.drawn.iy = s.iy := rfl
@[simp] theorem drawn_sp (s : State) : s.drawn.sp = s.sp := rfl
@[simp] theorem drawn_pc (s : State) : s.drawn.pc = s.pc := rfl
@[simp] theorem drawn_ccr (s : State) : s.drawn.ccr = s.ccr := rfl
@[simp] theorem drawn_run (s : State) : s.drawn.run = s.run := rfl
@[simp] theorem drawn_inhibit (s : State) : s.drawn.inhibit = s.inhibit := rfl
@[simp] theorem drawn_mem (s : State) : s.drawn.mem = s.mem := rfl
@[simp] theorem drawn_ports (s : State) : s.drawn.ports = s.ports := rfl
@[simp] theorem drawn_timer (s : State) : s.drawn.timer = s.timer := rfl
@[simp] theorem drawn_sci (s : State) : s.drawn.sci = s.sci := rfl
@[simp] theorem drawn_spi (s : State) : s.drawn.spi = s.spi := rfl
@[simp] theorem drawn_adc (s : State) : s.drawn.adc = s.adc := rfl
@[simp] theorem drawn_ee (s : State) : s.drawn.ee = s.ee := rfl
@[simp] theorem drawn_sys (s : State) : s.drawn.sys = s.sys := rfl
@[simp] theorem drawn_cop (s : State) : s.drawn.cop = s.cop := rfl
@[simp] theorem drawn_irqEdge (s : State) : s.drawn.irqEdge = s.irqEdge := rfl
@[simp] theorem drawn_clockFail (s : State) : s.drawn.clockFail = s.clockFail := rfl
@[simp] theorem drawn_copFail (s : State) : s.drawn.copFail = s.copFail := rfl
@[simp] theorem drawn_mode (s : State) : s.drawn.mode = s.mode := rfl
@[simp] theorem drawn_cycles (s : State) : s.drawn.cycles = s.cycles := rfl
@[simp] theorem drawn_env (s : State) : s.drawn.env = s.env := rfl
@[simp] theorem drawn_ramEpoch (s : State) : s.drawn.ramEpoch = s.ramEpoch := rfl
@[simp] theorem drawn_owed (s : State) : s.drawn.owed = s.owed := rfl
@[simp] theorem drawn_tcnt16 (s : State) : s.drawn.tcnt16 = s.tcnt16 := rfl

/-! An external bus cycle changes only the cycles owed. -/

@[simp] theorem busCycle_a (x : Word) (s : State) : (busCycle x s).a = s.a :=
  by unfold busCycle; split <;> rfl
@[simp] theorem busCycle_b (x : Word) (s : State) : (busCycle x s).b = s.b :=
  by unfold busCycle; split <;> rfl
@[simp] theorem busCycle_ix (x : Word) (s : State) : (busCycle x s).ix = s.ix :=
  by unfold busCycle; split <;> rfl
@[simp] theorem busCycle_iy (x : Word) (s : State) : (busCycle x s).iy = s.iy :=
  by unfold busCycle; split <;> rfl
@[simp] theorem busCycle_sp (x : Word) (s : State) : (busCycle x s).sp = s.sp :=
  by unfold busCycle; split <;> rfl
@[simp] theorem busCycle_pc (x : Word) (s : State) : (busCycle x s).pc = s.pc :=
  by unfold busCycle; split <;> rfl
@[simp] theorem busCycle_ccr (x : Word) (s : State) : (busCycle x s).ccr = s.ccr :=
  by unfold busCycle; split <;> rfl
@[simp] theorem busCycle_run (x : Word) (s : State) : (busCycle x s).run = s.run :=
  by unfold busCycle; split <;> rfl
@[simp] theorem busCycle_inhibit (x : Word) (s : State) : (busCycle x s).inhibit = s.inhibit :=
  by unfold busCycle; split <;> rfl
@[simp] theorem busCycle_mem (x : Word) (s : State) : (busCycle x s).mem = s.mem :=
  by unfold busCycle; split <;> rfl
@[simp] theorem busCycle_ports (x : Word) (s : State) : (busCycle x s).ports = s.ports :=
  by unfold busCycle; split <;> rfl
@[simp] theorem busCycle_timer (x : Word) (s : State) : (busCycle x s).timer = s.timer :=
  by unfold busCycle; split <;> rfl
@[simp] theorem busCycle_sci (x : Word) (s : State) : (busCycle x s).sci = s.sci :=
  by unfold busCycle; split <;> rfl
@[simp] theorem busCycle_spi (x : Word) (s : State) : (busCycle x s).spi = s.spi :=
  by unfold busCycle; split <;> rfl
@[simp] theorem busCycle_adc (x : Word) (s : State) : (busCycle x s).adc = s.adc :=
  by unfold busCycle; split <;> rfl
@[simp] theorem busCycle_ee (x : Word) (s : State) : (busCycle x s).ee = s.ee :=
  by unfold busCycle; split <;> rfl
@[simp] theorem busCycle_sys (x : Word) (s : State) : (busCycle x s).sys = s.sys :=
  by unfold busCycle; split <;> rfl
@[simp] theorem busCycle_cop (x : Word) (s : State) : (busCycle x s).cop = s.cop :=
  by unfold busCycle; split <;> rfl
@[simp] theorem busCycle_irqEdge (x : Word) (s : State) : (busCycle x s).irqEdge = s.irqEdge :=
  by unfold busCycle; split <;> rfl
@[simp] theorem busCycle_clockFail (x : Word) (s : State) : (busCycle x s).clockFail = s.clockFail :=
  by unfold busCycle; split <;> rfl
@[simp] theorem busCycle_copFail (x : Word) (s : State) : (busCycle x s).copFail = s.copFail :=
  by unfold busCycle; split <;> rfl
@[simp] theorem busCycle_mode (x : Word) (s : State) : (busCycle x s).mode = s.mode :=
  by unfold busCycle; split <;> rfl
@[simp] theorem busCycle_cycles (x : Word) (s : State) : (busCycle x s).cycles = s.cycles :=
  by unfold busCycle; split <;> rfl
@[simp] theorem busCycle_env (x : Word) (s : State) : (busCycle x s).env = s.env :=
  by unfold busCycle; split <;> rfl
@[simp] theorem busCycle_draws (x : Word) (s : State) : (busCycle x s).draws = s.draws :=
  by unfold busCycle; split <;> rfl
@[simp] theorem busCycle_ramEpoch (x : Word) (s : State) : (busCycle x s).ramEpoch = s.ramEpoch :=
  by unfold busCycle; split <;> rfl
@[simp] theorem busCycle_tcnt16 (x : Word) (s : State) : (busCycle x s).tcnt16 = s.tcnt16 :=
  by unfold busCycle; split <;> rfl

/-! Sending changes only the environment. -/

@[simp] theorem send_a (out : List Output) (s : State) : (send out s).a = s.a := rfl
@[simp] theorem send_b (out : List Output) (s : State) : (send out s).b = s.b := rfl
@[simp] theorem send_ix (out : List Output) (s : State) : (send out s).ix = s.ix := rfl
@[simp] theorem send_iy (out : List Output) (s : State) : (send out s).iy = s.iy := rfl
@[simp] theorem send_sp (out : List Output) (s : State) : (send out s).sp = s.sp := rfl
@[simp] theorem send_pc (out : List Output) (s : State) : (send out s).pc = s.pc := rfl
@[simp] theorem send_ccr (out : List Output) (s : State) : (send out s).ccr = s.ccr := rfl
@[simp] theorem send_run (out : List Output) (s : State) : (send out s).run = s.run := rfl
@[simp] theorem send_inhibit (out : List Output) (s : State) : (send out s).inhibit = s.inhibit :=
  rfl
@[simp] theorem send_mem (out : List Output) (s : State) : (send out s).mem = s.mem := rfl
@[simp] theorem send_ports (out : List Output) (s : State) : (send out s).ports = s.ports := rfl
@[simp] theorem send_timer (out : List Output) (s : State) : (send out s).timer = s.timer := rfl
@[simp] theorem send_sci (out : List Output) (s : State) : (send out s).sci = s.sci := rfl
@[simp] theorem send_spi (out : List Output) (s : State) : (send out s).spi = s.spi := rfl
@[simp] theorem send_adc (out : List Output) (s : State) : (send out s).adc = s.adc := rfl
@[simp] theorem send_ee (out : List Output) (s : State) : (send out s).ee = s.ee := rfl
@[simp] theorem send_sys (out : List Output) (s : State) : (send out s).sys = s.sys := rfl
@[simp] theorem send_cop (out : List Output) (s : State) : (send out s).cop = s.cop := rfl
@[simp] theorem send_irqEdge (out : List Output) (s : State) : (send out s).irqEdge = s.irqEdge :=
  rfl
@[simp] theorem send_clockFail (out : List Output) (s : State) : (send out s).clockFail = s.clockFail :=
  rfl
@[simp] theorem send_copFail (out : List Output) (s : State) : (send out s).copFail = s.copFail :=
  rfl
@[simp] theorem send_mode (out : List Output) (s : State) : (send out s).mode = s.mode := rfl
@[simp] theorem send_cycles (out : List Output) (s : State) : (send out s).cycles = s.cycles := rfl
@[simp] theorem send_draws (out : List Output) (s : State) : (send out s).draws = s.draws := rfl
@[simp] theorem send_ramEpoch (out : List Output) (s : State) : (send out s).ramEpoch = s.ramEpoch :=
  rfl
@[simp] theorem send_owed (out : List Output) (s : State) : (send out s).owed = s.owed := rfl
@[simp] theorem send_tcnt16 (out : List Output) (s : State) : (send out s).tcnt16 = s.tcnt16 := rfl

/-! Latching a write changes only the EEPROM latches. -/

@[simp] theorem latchWrite_a (g : EeTarget) (v : Byte) (s : State) : (latchWrite g v s).a = s.a :=
  by unfold latchWrite; split <;> rfl
@[simp] theorem latchWrite_b (g : EeTarget) (v : Byte) (s : State) : (latchWrite g v s).b = s.b :=
  by unfold latchWrite; split <;> rfl
@[simp] theorem latchWrite_ix (g : EeTarget) (v : Byte) (s : State) : (latchWrite g v s).ix = s.ix :=
  by unfold latchWrite; split <;> rfl
@[simp] theorem latchWrite_iy (g : EeTarget) (v : Byte) (s : State) : (latchWrite g v s).iy = s.iy :=
  by unfold latchWrite; split <;> rfl
@[simp] theorem latchWrite_sp (g : EeTarget) (v : Byte) (s : State) : (latchWrite g v s).sp = s.sp :=
  by unfold latchWrite; split <;> rfl
@[simp] theorem latchWrite_pc (g : EeTarget) (v : Byte) (s : State) : (latchWrite g v s).pc = s.pc :=
  by unfold latchWrite; split <;> rfl
@[simp] theorem latchWrite_ccr (g : EeTarget) (v : Byte) (s : State) : (latchWrite g v s).ccr = s.ccr :=
  by unfold latchWrite; split <;> rfl
@[simp] theorem latchWrite_run (g : EeTarget) (v : Byte) (s : State) : (latchWrite g v s).run = s.run :=
  by unfold latchWrite; split <;> rfl
@[simp] theorem latchWrite_inhibit (g : EeTarget) (v : Byte) (s : State) : (latchWrite g v s).inhibit = s.inhibit :=
  by unfold latchWrite; split <;> rfl
@[simp] theorem latchWrite_mem (g : EeTarget) (v : Byte) (s : State) : (latchWrite g v s).mem = s.mem :=
  by unfold latchWrite; split <;> rfl
@[simp] theorem latchWrite_ports (g : EeTarget) (v : Byte) (s : State) : (latchWrite g v s).ports = s.ports :=
  by unfold latchWrite; split <;> rfl
@[simp] theorem latchWrite_timer (g : EeTarget) (v : Byte) (s : State) : (latchWrite g v s).timer = s.timer :=
  by unfold latchWrite; split <;> rfl
@[simp] theorem latchWrite_sci (g : EeTarget) (v : Byte) (s : State) : (latchWrite g v s).sci = s.sci :=
  by unfold latchWrite; split <;> rfl
@[simp] theorem latchWrite_spi (g : EeTarget) (v : Byte) (s : State) : (latchWrite g v s).spi = s.spi :=
  by unfold latchWrite; split <;> rfl
@[simp] theorem latchWrite_adc (g : EeTarget) (v : Byte) (s : State) : (latchWrite g v s).adc = s.adc :=
  by unfold latchWrite; split <;> rfl
@[simp] theorem latchWrite_sys (g : EeTarget) (v : Byte) (s : State) : (latchWrite g v s).sys = s.sys :=
  by unfold latchWrite; split <;> rfl
@[simp] theorem latchWrite_cop (g : EeTarget) (v : Byte) (s : State) : (latchWrite g v s).cop = s.cop :=
  by unfold latchWrite; split <;> rfl
@[simp] theorem latchWrite_irqEdge (g : EeTarget) (v : Byte) (s : State) : (latchWrite g v s).irqEdge = s.irqEdge :=
  by unfold latchWrite; split <;> rfl
@[simp] theorem latchWrite_clockFail (g : EeTarget) (v : Byte) (s : State) : (latchWrite g v s).clockFail = s.clockFail :=
  by unfold latchWrite; split <;> rfl
@[simp] theorem latchWrite_copFail (g : EeTarget) (v : Byte) (s : State) : (latchWrite g v s).copFail = s.copFail :=
  by unfold latchWrite; split <;> rfl
@[simp] theorem latchWrite_mode (g : EeTarget) (v : Byte) (s : State) : (latchWrite g v s).mode = s.mode :=
  by unfold latchWrite; split <;> rfl
@[simp] theorem latchWrite_cycles (g : EeTarget) (v : Byte) (s : State) : (latchWrite g v s).cycles = s.cycles :=
  by unfold latchWrite; split <;> rfl
@[simp] theorem latchWrite_env (g : EeTarget) (v : Byte) (s : State) : (latchWrite g v s).env = s.env :=
  by unfold latchWrite; split <;> rfl
@[simp] theorem latchWrite_draws (g : EeTarget) (v : Byte) (s : State) : (latchWrite g v s).draws = s.draws :=
  by unfold latchWrite; split <;> rfl
@[simp] theorem latchWrite_ramEpoch (g : EeTarget) (v : Byte) (s : State) : (latchWrite g v s).ramEpoch = s.ramEpoch :=
  by unfold latchWrite; split <;> rfl
@[simp] theorem latchWrite_owed (g : EeTarget) (v : Byte) (s : State) : (latchWrite g v s).owed = s.owed :=
  by unfold latchWrite; split <;> rfl
@[simp] theorem latchWrite_tcnt16 (g : EeTarget) (v : Byte) (s : State) : (latchWrite g v s).tcnt16 = s.tcnt16 :=
  by unfold latchWrite; split <;> rfl

/-! Writing an accumulator changes only the accumulators. -/

@[simp] theorem accSet_ix (v : Byte) (s : State) (r : Acc) : (Acc.set v s r).ix = s.ix :=
  by cases r <;> rfl
@[simp] theorem accSet_iy (v : Byte) (s : State) (r : Acc) : (Acc.set v s r).iy = s.iy :=
  by cases r <;> rfl
@[simp] theorem accSet_sp (v : Byte) (s : State) (r : Acc) : (Acc.set v s r).sp = s.sp :=
  by cases r <;> rfl
@[simp] theorem accSet_pc (v : Byte) (s : State) (r : Acc) : (Acc.set v s r).pc = s.pc :=
  by cases r <;> rfl
@[simp] theorem accSet_ccr (v : Byte) (s : State) (r : Acc) : (Acc.set v s r).ccr = s.ccr :=
  by cases r <;> rfl
@[simp] theorem accSet_run (v : Byte) (s : State) (r : Acc) : (Acc.set v s r).run = s.run :=
  by cases r <;> rfl
@[simp] theorem accSet_inhibit (v : Byte) (s : State) (r : Acc) : (Acc.set v s r).inhibit = s.inhibit :=
  by cases r <;> rfl
@[simp] theorem accSet_mem (v : Byte) (s : State) (r : Acc) : (Acc.set v s r).mem = s.mem :=
  by cases r <;> rfl
@[simp] theorem accSet_ports (v : Byte) (s : State) (r : Acc) : (Acc.set v s r).ports = s.ports :=
  by cases r <;> rfl
@[simp] theorem accSet_timer (v : Byte) (s : State) (r : Acc) : (Acc.set v s r).timer = s.timer :=
  by cases r <;> rfl
@[simp] theorem accSet_sci (v : Byte) (s : State) (r : Acc) : (Acc.set v s r).sci = s.sci :=
  by cases r <;> rfl
@[simp] theorem accSet_spi (v : Byte) (s : State) (r : Acc) : (Acc.set v s r).spi = s.spi :=
  by cases r <;> rfl
@[simp] theorem accSet_adc (v : Byte) (s : State) (r : Acc) : (Acc.set v s r).adc = s.adc :=
  by cases r <;> rfl
@[simp] theorem accSet_ee (v : Byte) (s : State) (r : Acc) : (Acc.set v s r).ee = s.ee :=
  by cases r <;> rfl
@[simp] theorem accSet_sys (v : Byte) (s : State) (r : Acc) : (Acc.set v s r).sys = s.sys :=
  by cases r <;> rfl
@[simp] theorem accSet_cop (v : Byte) (s : State) (r : Acc) : (Acc.set v s r).cop = s.cop :=
  by cases r <;> rfl
@[simp] theorem accSet_irqEdge (v : Byte) (s : State) (r : Acc) : (Acc.set v s r).irqEdge = s.irqEdge :=
  by cases r <;> rfl
@[simp] theorem accSet_clockFail (v : Byte) (s : State) (r : Acc) : (Acc.set v s r).clockFail = s.clockFail :=
  by cases r <;> rfl
@[simp] theorem accSet_copFail (v : Byte) (s : State) (r : Acc) : (Acc.set v s r).copFail = s.copFail :=
  by cases r <;> rfl
@[simp] theorem accSet_mode (v : Byte) (s : State) (r : Acc) : (Acc.set v s r).mode = s.mode :=
  by cases r <;> rfl
@[simp] theorem accSet_cycles (v : Byte) (s : State) (r : Acc) : (Acc.set v s r).cycles = s.cycles :=
  by cases r <;> rfl
@[simp] theorem accSet_env (v : Byte) (s : State) (r : Acc) : (Acc.set v s r).env = s.env :=
  by cases r <;> rfl
@[simp] theorem accSet_draws (v : Byte) (s : State) (r : Acc) : (Acc.set v s r).draws = s.draws :=
  by cases r <;> rfl
@[simp] theorem accSet_ramEpoch (v : Byte) (s : State) (r : Acc) : (Acc.set v s r).ramEpoch = s.ramEpoch :=
  by cases r <;> rfl
@[simp] theorem accSet_owed (v : Byte) (s : State) (r : Acc) : (Acc.set v s r).owed = s.owed :=
  by cases r <;> rfl
@[simp] theorem accSet_tcnt16 (v : Byte) (s : State) (r : Acc) : (Acc.set v s r).tcnt16 = s.tcnt16 :=
  by cases r <;> rfl

/-! Writing a 16-bit register changes only the CPU registers. -/

@[simp] theorem reg16Set_pc (v : Word) (s : State) (r : Reg16) : (Reg16.set v s r).pc = s.pc :=
  by cases r <;> rfl
@[simp] theorem reg16Set_ccr (v : Word) (s : State) (r : Reg16) : (Reg16.set v s r).ccr = s.ccr :=
  by cases r <;> rfl
@[simp] theorem reg16Set_run (v : Word) (s : State) (r : Reg16) : (Reg16.set v s r).run = s.run :=
  by cases r <;> rfl
@[simp] theorem reg16Set_inhibit (v : Word) (s : State) (r : Reg16) : (Reg16.set v s r).inhibit = s.inhibit :=
  by cases r <;> rfl
@[simp] theorem reg16Set_mem (v : Word) (s : State) (r : Reg16) : (Reg16.set v s r).mem = s.mem :=
  by cases r <;> rfl
@[simp] theorem reg16Set_ports (v : Word) (s : State) (r : Reg16) : (Reg16.set v s r).ports = s.ports :=
  by cases r <;> rfl
@[simp] theorem reg16Set_timer (v : Word) (s : State) (r : Reg16) : (Reg16.set v s r).timer = s.timer :=
  by cases r <;> rfl
@[simp] theorem reg16Set_sci (v : Word) (s : State) (r : Reg16) : (Reg16.set v s r).sci = s.sci :=
  by cases r <;> rfl
@[simp] theorem reg16Set_spi (v : Word) (s : State) (r : Reg16) : (Reg16.set v s r).spi = s.spi :=
  by cases r <;> rfl
@[simp] theorem reg16Set_adc (v : Word) (s : State) (r : Reg16) : (Reg16.set v s r).adc = s.adc :=
  by cases r <;> rfl
@[simp] theorem reg16Set_ee (v : Word) (s : State) (r : Reg16) : (Reg16.set v s r).ee = s.ee :=
  by cases r <;> rfl
@[simp] theorem reg16Set_sys (v : Word) (s : State) (r : Reg16) : (Reg16.set v s r).sys = s.sys :=
  by cases r <;> rfl
@[simp] theorem reg16Set_cop (v : Word) (s : State) (r : Reg16) : (Reg16.set v s r).cop = s.cop :=
  by cases r <;> rfl
@[simp] theorem reg16Set_irqEdge (v : Word) (s : State) (r : Reg16) : (Reg16.set v s r).irqEdge = s.irqEdge :=
  by cases r <;> rfl
@[simp] theorem reg16Set_clockFail (v : Word) (s : State) (r : Reg16) : (Reg16.set v s r).clockFail = s.clockFail :=
  by cases r <;> rfl
@[simp] theorem reg16Set_copFail (v : Word) (s : State) (r : Reg16) : (Reg16.set v s r).copFail = s.copFail :=
  by cases r <;> rfl
@[simp] theorem reg16Set_mode (v : Word) (s : State) (r : Reg16) : (Reg16.set v s r).mode = s.mode :=
  by cases r <;> rfl
@[simp] theorem reg16Set_cycles (v : Word) (s : State) (r : Reg16) : (Reg16.set v s r).cycles = s.cycles :=
  by cases r <;> rfl
@[simp] theorem reg16Set_env (v : Word) (s : State) (r : Reg16) : (Reg16.set v s r).env = s.env :=
  by cases r <;> rfl
@[simp] theorem reg16Set_draws (v : Word) (s : State) (r : Reg16) : (Reg16.set v s r).draws = s.draws :=
  by cases r <;> rfl
@[simp] theorem reg16Set_ramEpoch (v : Word) (s : State) (r : Reg16) : (Reg16.set v s r).ramEpoch = s.ramEpoch :=
  by cases r <;> rfl
@[simp] theorem reg16Set_owed (v : Word) (s : State) (r : Reg16) : (Reg16.set v s r).owed = s.owed :=
  by cases r <;> rfl
@[simp] theorem reg16Set_tcnt16 (v : Word) (s : State) (r : Reg16) : (Reg16.set v s r).tcnt16 = s.tcnt16 :=
  by cases r <;> rfl

/-- An accumulator reads back what was written to it. -/
@[simp] theorem acc_get_set (v : Byte) (s : State) (r : Acc) : r.get (r.set v s) = v := by
  cases r <;> rfl

/-- The two halves of a pair. -/
@[simp] theorem hi8_mk16 (h l : Byte) : hi8 (mk16 h l) = h := by
  apply BitVec.eq_of_getLsbD_eq
  intro i hi
  simp only [hi8, mk16, BitVec.getLsbD_extractLsb', BitVec.getLsbD_append, hi, decide_true,
    Bool.true_and]
  rw [if_neg (by omega)]
  congr 1
  omega

@[simp] theorem lo8_mk16 (h l : Byte) : lo8 (mk16 h l) = l := by
  apply BitVec.eq_of_getLsbD_eq
  intro i hi
  simp only [lo8, mk16, BitVec.getLsbD_extractLsb', BitVec.getLsbD_append, hi, decide_true,
    Bool.true_and]
  rw [if_pos (by omega)]
  congr 1
  omega

/-- A word is the pair of its halves. -/
@[simp] theorem mk16_hi8_lo8 (w : Word) : mk16 (hi8 w) (lo8 w) = w := by
  apply BitVec.eq_of_getLsbD_eq
  intro i hi
  simp only [hi8, lo8, mk16, BitVec.getLsbD_extractLsb', BitVec.getLsbD_append]
  split
  · simp [*]
  · rename_i h
    simp only [show i - 8 < 8 by omega, decide_true, Bool.true_and]
    congr 1
    omega

/-- A 16-bit register reads back what was written to it. -/
@[simp] theorem reg16_get_set (v : Word) (s : State) (r : Reg16) :
    Reg16.get (Reg16.set v s r) r = v := by
  cases r <;> simp [Reg16.get, Reg16.set]

end Sys2Proof.Laws
end

