-- ==== Sys2Proof/Laws/Access.lean ====
section
/-! SUPPORT.
What a memory access can do to the state, said once for each operation: a read changes at most the serial
units (flag clearing), the free-value count and the cycles owed; a write changes no CPU register and no
clock. Proofs cite these instead of unfolding the register block.
-/

namespace Sys2Proof.Laws

open Sys2Proof.Machine

/-! ### Reads -/

/-- The state after a read, as an update of the state before. -/
def ReadChanges (s t : State) : Prop :=
  ∃ sci spi draws owed, t = { s with sci := sci, spi := spi, draws := draws, owed := owed }

theorem ReadChanges.refl (s : State) : ReadChanges s s := ⟨s.sci, s.spi, s.draws, s.owed, rfl⟩

theorem ReadChanges.trans {s t u : State} (h : ReadChanges s t) (k : ReadChanges t u) :
    ReadChanges s u := by
  obtain ⟨_, _, _, _, rfl⟩ := h
  obtain ⟨a, b, c, d, rfl⟩ := k
  exact ⟨a, b, c, d, rfl⟩

theorem busCycle_reads (a : Word) (s : State) : ReadChanges s (busCycle a s) := by
  unfold busCycle
  split
  · exact ⟨s.sci, s.spi, s.draws, _, rfl⟩
  · exact .refl s

theorem drawByte_reads (s : State) : ReadChanges s (drawByte s).2 :=
  ⟨s.sci, s.spi, s.draws + 1, s.owed, rfl⟩

theorem regReadEffect_reads (s : State) (off : Nat) : ReadChanges s (regReadEffect s off) := by
  unfold regReadEffect
  split
  · exact ⟨s.sci, _, s.draws, s.owed, rfl⟩
  · exact ⟨s.sci, _, s.draws, s.owed, rfl⟩
  · exact ⟨_, s.spi, s.draws, s.owed, rfl⟩
  · exact ⟨_, s.spi, s.draws, s.owed, rfl⟩
  · exact .refl s

theorem readReg_reads (off : Nat) (s : State) : ReadChanges s (readReg off s).2 := by
  unfold readReg
  simp only
  split
  · exact regReadEffect_reads s off
  · exact drawByte_reads s

theorem readArray_reads (r : Region) (off : Nat) (s : State) :
    ReadChanges s (readArray r off s).2 := by
  unfold readArray
  split
  · exact drawByte_reads s
  · split
    · exact .refl s
    · cases r <;> first | exact .refl s | exact drawByte_reads s

/-- Everything a byte read can do to the state. -/
theorem readByte_reads (a : Word) (s : State) : ReadChanges s (readByte a s).2 := by
  unfold readByte
  split
  · exact readReg_reads _ s
  · exact (busCycle_reads a s).trans (readArray_reads _ _ _)
  · exact readArray_reads _ _ s
  · exact (busCycle_reads a s).trans (drawByte_reads _)

/-- Everything a 16-bit read can do to the state. -/
theorem read16_reads (a : Word) (s : State) : ReadChanges s (read16 a s).2 := by
  unfold read16
  split
  · exact .refl s
  · exact (readByte_reads a s).trans (readByte_reads _ _)

/-! ### Writes -/

/-- The state after a write, as an update of the state before. -/
def WriteChanges (s t : State) : Prop :=
  ∃ mem ports timer sci spi adc ee sys cop draws owed,
    t = { s with mem := mem, ports := ports, timer := timer, sci := sci, spi := spi, adc := adc,
                 ee := ee, sys := sys, cop := cop, draws := draws, owed := owed }

theorem WriteChanges.refl (s : State) : WriteChanges s s :=
  ⟨s.mem, s.ports, s.timer, s.sci, s.spi, s.adc, s.ee, s.sys, s.cop, s.draws, s.owed, rfl⟩

theorem WriteChanges.trans {s t u : State} (h : WriteChanges s t) (k : WriteChanges t u) :
    WriteChanges s u := by
  obtain ⟨_, _, _, _, _, _, _, _, _, _, _, rfl⟩ := h
  obtain ⟨a, b, c, d, e, f, g, h, i, j, k, rfl⟩ := k
  exact ⟨a, b, c, d, e, f, g, h, i, j, k, rfl⟩

theorem ReadChanges.writes {s t : State} (h : ReadChanges s t) : WriteChanges s t := by
  obtain ⟨a, b, c, d, rfl⟩ := h
  exact ⟨s.mem, s.ports, s.timer, a, b, s.adc, s.ee, s.sys, s.cop, c, d, rfl⟩

theorem latchWrite_writes (g : EeTarget) (v : Byte) (s : State) : WriteChanges s (latchWrite g v s) := by
  unfold latchWrite
  split
  · exact ⟨s.mem, s.ports, s.timer, s.sci, s.spi, s.adc, _, s.sys, s.cop, s.draws, s.owed, rfl⟩
  · exact .refl s

theorem eraseWhere_writes (p : Nat → Bool) (s : State) : WriteChanges s (eraseWhere p s) :=
  ⟨_, s.ports, s.timer, s.sci, s.spi, s.adc, s.ee, s.sys, s.cop, s.draws, s.owed, rfl⟩

theorem programByte_writes (off : Nat) (v : Byte) (s : State) : WriteChanges s (programByte off v s) := by
  exact ⟨_, s.ports, s.timer, s.sci, s.spi, s.adc, s.ee, s.sys, s.cop, s.draws, s.owed, rfl⟩

theorem setConfigCells_writes (v : Byte) (s : State) : WriteChanges s (setConfigCells v s) :=
  ⟨s.mem, s.ports, s.timer, s.sci, s.spi, s.adc, s.ee, _, s.cop, s.draws, s.owed, rfl⟩

theorem eeCommit_writes (g : EeTarget) (v : Byte) (s : State) : WriteChanges s (eeCommit g v s) := by
  unfold eeCommit
  cases g with
  | array off =>
    simp only
    split
    · exact .refl s
    split
    · exact programByte_writes _ _ _
    · split
      · exact eraseWhere_writes _ _
      · split <;> exact eraseWhere_writes _ _
  | config =>
    simp only
    split
    · exact .refl s
    split
    · exact setConfigCells_writes _ _
    · split
      · exact .refl s
      · exact (eraseWhere_writes _ s).trans (setConfigCells_writes _ _)

theorem writePprog_writes (v : Byte) (s : State) : WriteChanges s (writePprog v s) := by
  have h : ∀ t : State, WriteChanges s t → ∀ e, WriteChanges s { t with ee := e } := by
    intro t ht e
    exact ht.trans ⟨t.mem, t.ports, t.timer, t.sci, t.spi, t.adc, e, t.sys, t.cop, t.draws, t.owed, rfl⟩
  unfold writePprog
  simp only
  apply h
  split
  · split
    · exact eeCommit_writes _ _ _
    · exact .refl s
  · exact .refl s

theorem writeConfig_writes (v : Byte) (s : State) : WriteChanges s (writeConfig v s) := by
  unfold writeConfig
  simp only
  refine (latchWrite_writes .config v s).trans ?_
  generalize latchWrite .config v s = t
  split
  · exact ⟨t.mem, t.ports, t.timer, t.sci, t.spi, t.adc, t.ee, _, t.cop, t.draws, t.owed, rfl⟩
  · exact .refl t

theorem writeCoprst_writes (v : Byte) (s : State) : WriteChanges s (writeCoprst v s) := by
  unfold writeCoprst
  split
  · exact ⟨s.mem, s.ports, s.timer, s.sci, s.spi, s.adc, s.ee, s.sys, _, s.draws, s.owed, rfl⟩
  · split
    · exact ⟨s.mem, s.ports, s.timer, s.sci, s.spi, s.adc, s.ee, s.sys, _, s.draws, s.owed, rfl⟩
    · exact .refl s

theorem writeControl_writes (off : Nat) (v : Byte) (s : State) :
    WriteChanges s (writeControl off v s) := by
  unfold writeControl
  split
  case h_7 => exact ⟨s.mem, s.ports, s.timer, _, s.spi, s.adc, s.ee, s.sys, s.cop, s.draws, s.owed, rfl⟩
  case h_12 => exact writeCoprst_writes v s
  case h_13 => exact writePprog_writes v s
  case h_16 => exact writeConfig_writes v s
  case h_21 => exact .refl s
  all_goals exact ⟨_, _, _, _, _, _, _, _, _, _, _, rfl⟩

/-- Everything a write to the register block can do. -/
theorem writeReg_writes (off : Nat) (v : Byte) (s : State) : WriteChanges s (writeReg off v s) := by
  unfold writeReg
  split
  · exact ⟨s.mem, _, s.timer, s.sci, s.spi, s.adc, s.ee, s.sys, s.cop, s.draws, s.owed, rfl⟩
  · split
    · exact ⟨s.mem, s.ports, _, s.sci, s.spi, s.adc, s.ee, s.sys, s.cop, s.draws, s.owed, rfl⟩
    · exact writeControl_writes off v s

theorem writeArray_writes (r : Region) (off : Nat) (v : Byte) (s : State) :
    WriteChanges s (writeArray r off v s) := by
  cases r
  · exact ⟨_, s.ports, s.timer, s.sci, s.spi, s.adc, s.ee, s.sys, s.cop, s.draws, s.owed, rfl⟩
  · exact latchWrite_writes _ _ s
  · exact .refl s
  · exact ⟨_, s.ports, s.timer, s.sci, s.spi, s.adc, s.ee, s.sys, s.cop, s.draws, s.owed, rfl⟩

/-- Everything a byte write can do to the state. -/
theorem writeByte_writes (a : Word) (v : Byte) (s : State) : WriteChanges s (writeByte a v s) := by
  unfold writeByte
  split
  · exact writeReg_writes _ v s
  · exact (busCycle_reads a s).writes.trans (writeArray_writes _ _ v _)
  · exact writeArray_writes _ _ v s
  · exact (busCycle_reads a s).writes

/-- Everything a 16-bit write can do to the state. -/
theorem write16_writes (a v : Word) (s : State) : WriteChanges s (write16 a v s) :=
  (writeByte_writes a _ s).trans (writeByte_writes _ _ _)

end Sys2Proof.Laws
end

