-- ==== Sys2Proof/Laws/Devices.lean ====
section
/-! SUPPORT.
What the passing of E cycles can change: the units that count, the outputs and the free-value count; and
that every instruction takes at least two cycles.
-/

namespace Sys2Proof.Laws

open Sys2Proof.Machine

/-- The state after `n` cycles, as an update of the state before. -/
def TickChanges (n : Nat) (s t : State) : Prop := ∃ timer sci spi adc cop copFail outputs draws,
  t = { s with timer := timer, sci := sci, spi := spi, adc := adc, cop := cop,
                copFail := copFail, cycles := s.cycles + n,
                env := { s.env with outputs := outputs }, draws := draws }

theorem TickChanges.trans {m n : Nat} {s t u : State} (h : TickChanges m s t)
    (k : TickChanges n t u) : TickChanges (m + n) s u := by
  obtain ⟨_, _, _, _, _, _, _, _, rfl⟩ := h
  obtain ⟨a, b, c, d, e, f, g, h, rfl⟩ := k
  exact ⟨a, b, c, d, e, f, g, h, by simp [Nat.add_assoc]⟩

theorem TickChanges.refl (s : State) : TickChanges 0 s s :=
  ⟨s.timer, s.sci, s.spi, s.adc, s.cop, s.copFail, s.env.outputs, s.draws, rfl⟩

theorem adcTick_changes (s : State) : TickChanges 0 s (adcTick s) := by
  unfold adcTick
  split
  · exact ⟨s.timer, s.sci, s.spi, _, s.cop, s.copFail, s.env.outputs, s.draws, rfl⟩
  split
  · exact .refl s
  · split
    · exact ⟨s.timer, s.sci, s.spi, _, s.cop, s.copFail, s.env.outputs, s.draws, rfl⟩
    · have : ∃ d, (adcSample s).2 = { s with draws := d } := by
        unfold adcSample
        simp only
        split
        · exact ⟨s.draws, rfl⟩
        · split <;> first | exact ⟨s.draws, rfl⟩ | exact ⟨_, rfl⟩
      obtain ⟨d, hd⟩ := this
      simp only [hd]
      exact ⟨s.timer, s.sci, s.spi, _, s.cop, s.copFail, s.env.outputs, d, rfl⟩

theorem copTick_changes (s : State) : TickChanges 0 s (copTick s) := by
  unfold copTick
  simp only
  split
  · exact ⟨s.timer, s.sci, s.spi, s.adc, _, _, s.env.outputs, s.draws, rfl⟩
  · exact ⟨s.timer, s.sci, s.spi, s.adc, _, _, s.env.outputs, s.draws, rfl⟩

/-- Everything one cycle can change. -/
theorem tick_changes (s : State) : TickChanges 1 s (tick s) := by
  unfold tick
  have h0 : TickChanges 1 s { s with cycles := s.cycles + 1 } := ⟨s.timer, s.sci, s.spi, s.adc,
      s.cop, s.copFail, s.env.outputs, s.draws, rfl⟩
  have h1 : ∀ s, TickChanges 0 s (timerTick s) := fun s => ⟨_, s.sci, s.spi, s.adc, s.cop,
      s.copFail, s.env.outputs, s.draws, rfl⟩
  have h2 : ∀ s, TickChanges 0 s (sciTick s) := fun s => ⟨s.timer, _, s.spi, s.adc, s.cop,
      s.copFail, _, s.draws, rfl⟩
  have h3 : ∀ s, TickChanges 0 s (spiTick s) := fun s => ⟨s.timer, s.sci, _, s.adc, s.cop,
      s.copFail, _, s.draws, rfl⟩
  exact ((((h0.trans (h1 _)).trans (copTick_changes _)).trans (h2 _)).trans (h3 _)).trans
      (adcTick_changes _)

/-- Everything `n` cycles can change. -/
theorem advance_changes (n : Nat) (s : State) : TickChanges n s (advance n s) := by
  induction n generalizing s with
  | zero => exact .refl s
  | succ n ih => have := (tick_changes s).trans (ih (tick s)); rw [Nat.add_comm] at this; exact this

/-- Everything an instruction's cycles can change. -/
theorem spend_changes (n : Nat) (hn : 2 ≤ n) (s : State) :
    ∃ w, TickChanges (s.owed + n) { s with owed := 0, tcnt16 := w } (spend n s) := by
  unfold spend
  simp only
  have h1 := advance_changes (s.owed + n - 2) { s with owed := 0 }
  generalize advance (s.owed + n - 2) { s with owed := 0 } = u at h1
  refine ⟨u.timer.tcnt, ?_⟩
  have h2 := advance_changes 2 { u with tcnt16 := u.timer.tcnt }
  have h3 : TickChanges (s.owed + n - 2) { s with owed := 0, tcnt16 := u.timer.tcnt }
      { u with tcnt16 := u.timer.tcnt } := by
    obtain ⟨a, b, c, d, e, f, g, h, hh⟩ := h1
    generalize u.timer.tcnt = w
    subst hh
    exact ⟨a, b, c, d, e, f, g, h, rfl⟩
  have := h3.trans h2
  rw [show s.owed + n - 2 + 2 = s.owed + n by omega] at this
  exact this

/-- Every instruction takes at least two cycles. -/
theorem cycles_ge (i : Instr) : 2 ≤ cycles i := by
  have h1 : ∀ d e x y m, 2 ≤ d → 2 ≤ e → 2 ≤ x → 2 ≤ y → 2 ≤ formCycles d e x y m := by
    intro d e x y m a b c f; cases m <;> simp [formCycles] <;> omega
  have h2 : ∀ src, 2 ≤ src8Cycles src := by
    intro src; cases src with
    | imm _ => simp [src8Cycles]
    | mem m => exact h1 _ _ _ _ m (by decide) (by decide) (by decide) (by decide)
  have h3 : ∀ i d e x y src, 2 ≤ i → 2 ≤ d → 2 ≤ e → 2 ≤ x → 2 ≤ y →
      2 ≤ src16Cycles i d e x y src := by
    intro i d e x y src a b c f g; cases src with
    | imm _ => simpa [src16Cycles]
    | mem m => exact h1 _ _ _ _ m b c f g
  cases i <;> unfold cycles <;> simp only <;>
    first
      | decide
      | omega
      | exact h2 _
      | (apply h1 <;> decide)
      | (apply h3 <;> decide)

end Sys2Proof.Laws
end

