-- ==== Sys2Proof/Laws/Environment.lean ====
section
/-! SUPPORT.
What an event of the environment can change, said once: the timer, the serial units, the request latches
and the environment itself; and that a stop keeps the clocked units.
-/

namespace Sys2Proof.Laws

open Sys2Proof.Machine

@[simp] theorem unlessStopped_stopped {s : State} (f : State → State) (h : s.run = .stopped) :
    unlessStopped f s = s := by simp [unlessStopped, h]

@[simp] theorem unlessStopped_clocked {s : State} (f : State → State) (h : s.run ≠ .stopped) :
    unlessStopped f s = f s := by simp [unlessStopped, h]

/-- The state after an event, as an update of the state before. -/
def EventChanges (s t : State) : Prop := ∃ timer sci spi irqEdge clockFail env,
  t = { s with timer := timer, sci := sci, spi := spi, irqEdge := irqEdge, clockFail := clockFail,
               env := env }

/-- Everything an event can change. -/
theorem applyEvent_changes (e : Event) (s : State) : EventChanges s (applyEvent e s) := by
  cases e <;> simp only [applyEvent, setPins, unlessStopped] <;> (try split) <;>
    exact ⟨_, _, _, _, _, _, rfl⟩

/-- A stop keeps the timer and the serial units, whatever the event (45 R412). -/
theorem applyEvent_stopped {e : Event} {s : State} (h : s.run = .stopped) :
    (applyEvent e s).timer = s.timer ∧ (applyEvent e s).sci = s.sci ∧
      (applyEvent e s).spi = s.spi := by
  cases e <;> simp [applyEvent, setPins, h]

/-- Everything an instruction boundary can change: what the owed cycles and an event can, and the list of
inputs. -/
def BoundaryChanges (s t : State) : Prop :=
  ∃ timer sci spi adc cop copFail cycles irqEdge clockFail env draws owed,
    t = { s with timer := timer, sci := sci, spi := spi, adc := adc, cop := cop, copFail := copFail,
                 cycles := cycles, irqEdge := irqEdge, clockFail := clockFail, env := env,
                 draws := draws, owed := owed }

theorem BoundaryChanges.refl (s : State) : BoundaryChanges s s :=
  ⟨s.timer, s.sci, s.spi, s.adc, s.cop, s.copFail, s.cycles, s.irqEdge, s.clockFail, s.env, s.draws,
    s.owed, rfl⟩

theorem BoundaryChanges.trans {s t u : State} (h : BoundaryChanges s t) (k : BoundaryChanges t u) :
    BoundaryChanges s u := by
  obtain ⟨_, _, _, _, _, _, _, _, _, _, _, _, rfl⟩ := h
  obtain ⟨a, b, c, d, e, f, g, h, i, j, k, l, rfl⟩ := k
  exact ⟨a, b, c, d, e, f, g, h, i, j, k, l, rfl⟩

theorem catchUp_changes (s : State) : BoundaryChanges s (catchUp s) := by
  obtain ⟨a, b, c, d, e, f, g, h, k⟩ := advance_changes s.owed { s with owed := 0 }
  exact ⟨a, b, c, d, e, f, s.cycles + s.owed, s.irqEdge, s.clockFail, { s.env with outputs := g }, h, 0, k⟩

theorem nextEvent_changes (s : State) : BoundaryChanges s (nextEvent s) := by
  unfold nextEvent
  split
  · exact .refl s
  · rename_i e es _
    obtain ⟨a, b, c, d, f, g, h⟩ := applyEvent_changes e { s with env := { s.env with inputs := es } }
    exact ⟨a, b, c, s.adc, s.cop, s.copFail, s.cycles, d, f, g, s.draws, s.owed, h⟩

theorem boundary_changes (s : State) : BoundaryChanges s (boundary s) := by
  unfold boundary
  split
  · exact nextEvent_changes s
  · exact (catchUp_changes s).trans (nextEvent_changes _)

theorem boundary_ccr (s : State) : (boundary s).ccr = s.ccr := by
  obtain ⟨_, _, _, _, _, _, _, _, _, _, _, _, h⟩ := boundary_changes s
  rw [h]

theorem boundary_inhibit (s : State) : (boundary s).inhibit = s.inhibit := by
  obtain ⟨_, _, _, _, _, _, _, _, _, _, _, _, h⟩ := boundary_changes s
  rw [h]

end Sys2Proof.Laws
end

