-- ==== Sys2Proof/Laws/Flags.lean ====
section
/-! SUPPORT.
Each flag computation, said once as arithmetic on integers: what the adders and subtractors answer, and
N and Z of a value.
-/

namespace Sys2Proof.Laws

open Sys2Proof.Machine

theorem beq_toNat {w : Nat} (a b : BitVec w) : (a == b) = decide (a.toNat = b.toNat) := by
  by_cases h : a = b
  · simp [h]
  · have : a.toNat ≠ b.toNat := fun hc => h (BitVec.eq_of_toNat_eq hc)
    simp [h, this]

/-- N and Z of a byte, V cleared. -/
theorem logic8_eq (c : Ccr) (v : Byte) : c.logic8 v = valueFlags8 c v := by
  simp [Ccr.logic8, Ccr.nz8, valueFlags8]
  constructor
  · rw [BitVec.msb_eq_decide]
  · rw [beq_toNat]; rfl

/-- N and Z of a word, V cleared. -/
theorem logic16_eq (c : Ccr) (v : Word) : c.logic16 v = valueFlags16 c v := by
  simp [Ccr.logic16, Ccr.nz16, valueFlags16]
  constructor
  · rw [BitVec.msb_eq_decide]
  · rw [beq_toNat]; rfl

theorem toInt8 (a : BitVec 8) :
    a.toInt = if a.toNat < 128 then (a.toNat : Int) else a.toNat - 256 := by
  rw [BitVec.toInt_eq_toNat_cond]; split <;> split <;> omega

theorem toInt16 (a : BitVec 16) :
    a.toInt = if a.toNat < 32768 then (a.toNat : Int) else a.toNat - 65536 := by
  rw [BitVec.toInt_eq_toNat_cond]; split <;> split <;> omega

theorem msb8 (a : BitVec 8) : a.msb = decide (128 ≤ a.toNat) := by rw [BitVec.msb_eq_decide]

theorem msb16 (a : BitVec 16) : a.msb = decide (32768 ≤ a.toNat) := by rw [BitVec.msb_eq_decide]

/-- What `ADD8` answers (41 R250). -/
theorem add8_eq (a m : Byte) (cin : Bool) (c : Ccr) :
    add8 a m cin c = (BitVec.ofNat 8 (sum8 a m cin), sumFlags8 c a m cin) := by
  have e1 : (BitVec.setWidth 8 (a.setWidth 9 + m.setWidth 9 + (BitVec.ofBool cin).setWidth 9) :
      BitVec 8) = BitVec.ofNat 8 (sum8 a m cin) := by
    apply BitVec.eq_of_toNat_eq
    cases cin <;> simp [sum8, BitVec.toNat_add, BitVec.toNat_setWidth]
  unfold add8
  simp only
  rw [e1]
  have ha := a.isLt
  have hm := m.isLt
  congr 1
  unfold sumFlags8 Ccr.nz8
  simp only
  congr 1
  · rw [BitVec.msb_eq_decide]; simp
  · rw [beq_toNat]; simp
  · rw [msb8, msb8, msb8, toInt8, toInt8, Bool.eq_iff_iff]
    simp only [BitVec.toNat_ofNat, sum8]
    simp only [Bool.or_eq_true, Bool.and_eq_true, Bool.not_eq_true', decide_eq_true_eq,
        decide_eq_false_iff_not]
    cases cin <;> simp only [Bool.toNat_true, Bool.toNat_false] <;> split <;> split <;> omega
  · rw [BitVec.msb_eq_decide]
    cases cin <;> simp [BitVec.toNat_add, BitVec.toNat_setWidth, sum8] <;> omega

/-- What `SUB8` answers (41 R251). -/
theorem sub8_eq (a m : Byte) (cin : Bool) (c : Ccr) :
    sub8 a m cin c = (BitVec.ofInt 8 (diff8 a m cin), diffFlags8 c a m cin) := by
  have ha := a.isLt
  have hm := m.isLt
  have e1 : (BitVec.setWidth 8 (a.setWidth 9 - m.setWidth 9 - (BitVec.ofBool cin).setWidth 9) :
      BitVec 8) = BitVec.ofInt 8 (diff8 a m cin) := by
    apply BitVec.eq_of_toNat_eq
    cases cin <;> simp [diff8, BitVec.toNat_sub, BitVec.toNat_setWidth, BitVec.toNat_ofInt] <;>
        omega
  unfold sub8
  simp only
  rw [e1]
  congr 1
  unfold diffFlags8 Ccr.nz8
  simp only
  congr 1
  · rw [BitVec.msb_eq_decide]; simp [BitVec.toNat_ofInt]; omega
  · rw [beq_toNat]; simp [BitVec.toNat_ofInt]; omega
  · rw [msb8, msb8, msb8, toInt8, toInt8, Bool.eq_iff_iff]
    simp only [BitVec.toNat_ofInt, diff8]
    simp only [Bool.or_eq_true, Bool.and_eq_true, Bool.not_eq_true', decide_eq_true_eq,
        decide_eq_false_iff_not]
    cases cin <;> simp only [Bool.toNat_true, Bool.toNat_false] <;> split <;> split <;> omega
  · rw [BitVec.msb_eq_decide]
    cases cin <;> simp [BitVec.toNat_sub, BitVec.toNat_setWidth, diff8] <;> omega

/-- What `ADD16` answers (41 R252). -/
theorem add16_eq (a m : Word) (c : Ccr) :
    add16 a m c = (BitVec.ofNat 16 (a.toNat + m.toNat), sumFlags16 c a m) := by
  have e1 : (BitVec.setWidth 16 (a.setWidth 17 + m.setWidth 17) : BitVec 16) =
      BitVec.ofNat 16 (a.toNat + m.toNat) := by
    apply BitVec.eq_of_toNat_eq
    simp [BitVec.toNat_add, BitVec.toNat_setWidth]
  unfold add16
  simp only
  rw [e1]
  have ha := a.isLt
  have hm := m.isLt
  congr 1
  unfold sumFlags16 Ccr.nz16
  simp only
  congr 1
  · rw [BitVec.msb_eq_decide]; simp
  · rw [beq_toNat]; simp
  · rw [msb16, msb16, msb16, toInt16, toInt16, Bool.eq_iff_iff]
    simp only [BitVec.toNat_ofNat]
    simp only [Bool.or_eq_true, Bool.and_eq_true, Bool.not_eq_true', decide_eq_true_eq,
        decide_eq_false_iff_not]
    split <;> split <;> omega
  · rw [BitVec.msb_eq_decide]
    simp [BitVec.toNat_add, BitVec.toNat_setWidth]
    omega

/-- What `SUB16` answers (41 R253). -/
theorem sub16_eq (a m : Word) (c : Ccr) :
    sub16 a m c = (BitVec.ofInt 16 (a.toNat - m.toNat), diffFlags16 c a m) := by
  have ha := a.isLt
  have hm := m.isLt
  have e1 : (BitVec.setWidth 16 (a.setWidth 17 - m.setWidth 17) : BitVec 16) = BitVec.ofInt 16
      (a.toNat - m.toNat) := by
    apply BitVec.eq_of_toNat_eq
    simp [BitVec.toNat_sub, BitVec.toNat_setWidth, BitVec.toNat_ofInt]
    omega
  unfold sub16
  simp only
  rw [e1]
  congr 1
  unfold diffFlags16 Ccr.nz16
  simp only
  congr 1
  · rw [BitVec.msb_eq_decide]; simp [BitVec.toNat_ofInt]; omega
  · rw [beq_toNat]; simp [BitVec.toNat_ofInt]; omega
  · rw [msb16, msb16, msb16, toInt16, toInt16, Bool.eq_iff_iff]
    simp only [BitVec.toNat_ofInt]
    simp only [Bool.or_eq_true, Bool.and_eq_true, Bool.not_eq_true', decide_eq_true_eq,
        decide_eq_false_iff_not]
    split <;> split <;> omega
  · rw [BitVec.msb_eq_decide]
    simp [BitVec.toNat_sub, BitVec.toNat_setWidth]
    omega

end Sys2Proof.Laws
end

