-- ==== Sys2Proof/Laws/Frames.lean ====
section
/-! SUPPORT.
The frames of the memory and stack operations, field by field, so that a proof about an instruction
simplifies an access away instead of unfolding it.
-/

namespace Sys2Proof.Laws

open Sys2Proof.Machine

/-- Reads keep every field but the serial units, the free-value count and the cycles owed. -/
theorem ReadChanges.field {s t : State} {α : Type} (h : ReadChanges s t) (f : State → α)
    (hf : ∀ s sci spi draws owed,
      f { s with sci := sci, spi := spi, draws := draws, owed := owed } = f s) : f t = f s := by
  obtain ⟨_, _, _, _, rfl⟩ := h
  exact hf _ _ _ _ _

/-- Writes keep every CPU register and clock. -/
theorem WriteChanges.field {s t : State} {α : Type} (h : WriteChanges s t) (f : State → α)
    (hf : ∀ s mem ports timer sci spi adc ee sys cop draws owed,
      f { s with mem := mem, ports := ports, timer := timer, sci := sci, spi := spi, adc := adc,
                 ee := ee, sys := sys, cop := cop, draws := draws, owed := owed } = f s) :
    f t = f s := by
  obtain ⟨_, _, _, _, _, _, _, _, _, _, _, rfl⟩ := h
  exact hf _ _ _ _ _ _ _ _ _ _ _ _


/-! Byte and word reads. -/

@[simp] theorem readByte_a (x : Word) (s : State) : (readByte x s).2.a = s.a :=
  (readByte_reads x s).field (·.a) fun _ _ _ _ _ => rfl
@[simp] theorem readByte_b (x : Word) (s : State) : (readByte x s).2.b = s.b :=
  (readByte_reads x s).field (·.b) fun _ _ _ _ _ => rfl
@[simp] theorem readByte_ix (x : Word) (s : State) : (readByte x s).2.ix = s.ix :=
  (readByte_reads x s).field (·.ix) fun _ _ _ _ _ => rfl
@[simp] theorem readByte_iy (x : Word) (s : State) : (readByte x s).2.iy = s.iy :=
  (readByte_reads x s).field (·.iy) fun _ _ _ _ _ => rfl
@[simp] theorem readByte_sp (x : Word) (s : State) : (readByte x s).2.sp = s.sp :=
  (readByte_reads x s).field (·.sp) fun _ _ _ _ _ => rfl
@[simp] theorem readByte_pc (x : Word) (s : State) : (readByte x s).2.pc = s.pc :=
  (readByte_reads x s).field (·.pc) fun _ _ _ _ _ => rfl
@[simp] theorem readByte_ccr (x : Word) (s : State) : (readByte x s).2.ccr = s.ccr :=
  (readByte_reads x s).field (·.ccr) fun _ _ _ _ _ => rfl
@[simp] theorem readByte_run (x : Word) (s : State) : (readByte x s).2.run = s.run :=
  (readByte_reads x s).field (·.run) fun _ _ _ _ _ => rfl
@[simp] theorem readByte_inhibit (x : Word) (s : State) : (readByte x s).2.inhibit = s.inhibit :=
  (readByte_reads x s).field (·.inhibit) fun _ _ _ _ _ => rfl
@[simp] theorem readByte_mem (x : Word) (s : State) : (readByte x s).2.mem = s.mem :=
  (readByte_reads x s).field (·.mem) fun _ _ _ _ _ => rfl
@[simp] theorem readByte_ports (x : Word) (s : State) : (readByte x s).2.ports = s.ports :=
  (readByte_reads x s).field (·.ports) fun _ _ _ _ _ => rfl
@[simp] theorem readByte_timer (x : Word) (s : State) : (readByte x s).2.timer = s.timer :=
  (readByte_reads x s).field (·.timer) fun _ _ _ _ _ => rfl
@[simp] theorem readByte_adc (x : Word) (s : State) : (readByte x s).2.adc = s.adc :=
  (readByte_reads x s).field (·.adc) fun _ _ _ _ _ => rfl
@[simp] theorem readByte_ee (x : Word) (s : State) : (readByte x s).2.ee = s.ee :=
  (readByte_reads x s).field (·.ee) fun _ _ _ _ _ => rfl
@[simp] theorem readByte_sys (x : Word) (s : State) : (readByte x s).2.sys = s.sys :=
  (readByte_reads x s).field (·.sys) fun _ _ _ _ _ => rfl
@[simp] theorem readByte_cop (x : Word) (s : State) : (readByte x s).2.cop = s.cop :=
  (readByte_reads x s).field (·.cop) fun _ _ _ _ _ => rfl
@[simp] theorem readByte_irqEdge (x : Word) (s : State) : (readByte x s).2.irqEdge = s.irqEdge :=
  (readByte_reads x s).field (·.irqEdge) fun _ _ _ _ _ => rfl
@[simp] theorem readByte_clockFail (x : Word) (s : State) : (readByte x s).2.clockFail = s.clockFail :=
  (readByte_reads x s).field (·.clockFail) fun _ _ _ _ _ => rfl
@[simp] theorem readByte_copFail (x : Word) (s : State) : (readByte x s).2.copFail = s.copFail :=
  (readByte_reads x s).field (·.copFail) fun _ _ _ _ _ => rfl
@[simp] theorem readByte_mode (x : Word) (s : State) : (readByte x s).2.mode = s.mode :=
  (readByte_reads x s).field (·.mode) fun _ _ _ _ _ => rfl
@[simp] theorem readByte_cycles (x : Word) (s : State) : (readByte x s).2.cycles = s.cycles :=
  (readByte_reads x s).field (·.cycles) fun _ _ _ _ _ => rfl
@[simp] theorem readByte_env (x : Word) (s : State) : (readByte x s).2.env = s.env :=
  (readByte_reads x s).field (·.env) fun _ _ _ _ _ => rfl
@[simp] theorem readByte_ramEpoch (x : Word) (s : State) : (readByte x s).2.ramEpoch = s.ramEpoch :=
  (readByte_reads x s).field (·.ramEpoch) fun _ _ _ _ _ => rfl
@[simp] theorem readByte_tcnt16 (x : Word) (s : State) : (readByte x s).2.tcnt16 = s.tcnt16 :=
  (readByte_reads x s).field (·.tcnt16) fun _ _ _ _ _ => rfl
@[simp] theorem read16_a (x : Word) (s : State) : (read16 x s).2.a = s.a :=
  (read16_reads x s).field (·.a) fun _ _ _ _ _ => rfl
@[simp] theorem read16_b (x : Word) (s : State) : (read16 x s).2.b = s.b :=
  (read16_reads x s).field (·.b) fun _ _ _ _ _ => rfl
@[simp] theorem read16_ix (x : Word) (s : State) : (read16 x s).2.ix = s.ix :=
  (read16_reads x s).field (·.ix) fun _ _ _ _ _ => rfl
@[simp] theorem read16_iy (x : Word) (s : State) : (read16 x s).2.iy = s.iy :=
  (read16_reads x s).field (·.iy) fun _ _ _ _ _ => rfl
@[simp] theorem read16_sp (x : Word) (s : State) : (read16 x s).2.sp = s.sp :=
  (read16_reads x s).field (·.sp) fun _ _ _ _ _ => rfl
@[simp] theorem read16_pc (x : Word) (s : State) : (read16 x s).2.pc = s.pc :=
  (read16_reads x s).field (·.pc) fun _ _ _ _ _ => rfl
@[simp] theorem read16_ccr (x : Word) (s : State) : (read16 x s).2.ccr = s.ccr :=
  (read16_reads x s).field (·.ccr) fun _ _ _ _ _ => rfl
@[simp] theorem read16_run (x : Word) (s : State) : (read16 x s).2.run = s.run :=
  (read16_reads x s).field (·.run) fun _ _ _ _ _ => rfl
@[simp] theorem read16_inhibit (x : Word) (s : State) : (read16 x s).2.inhibit = s.inhibit :=
  (read16_reads x s).field (·.inhibit) fun _ _ _ _ _ => rfl
@[simp] theorem read16_mem (x : Word) (s : State) : (read16 x s).2.mem = s.mem :=
  (read16_reads x s).field (·.mem) fun _ _ _ _ _ => rfl
@[simp] theorem read16_ports (x : Word) (s : State) : (read16 x s).2.ports = s.ports :=
  (read16_reads x s).field (·.ports) fun _ _ _ _ _ => rfl
@[simp] theorem read16_timer (x : Word) (s : State) : (read16 x s).2.timer = s.timer :=
  (read16_reads x s).field (·.timer) fun _ _ _ _ _ => rfl
@[simp] theorem read16_adc (x : Word) (s : State) : (read16 x s).2.adc = s.adc :=
  (read16_reads x s).field (·.adc) fun _ _ _ _ _ => rfl
@[simp] theorem read16_ee (x : Word) (s : State) : (read16 x s).2.ee = s.ee :=
  (read16_reads x s).field (·.ee) fun _ _ _ _ _ => rfl
@[simp] theorem read16_sys (x : Word) (s : State) : (read16 x s).2.sys = s.sys :=
  (read16_reads x s).field (·.sys) fun _ _ _ _ _ => rfl
@[simp] theorem read16_cop (x : Word) (s : State) : (read16 x s).2.cop = s.cop :=
  (read16_reads x s).field (·.cop) fun _ _ _ _ _ => rfl
@[simp] theorem read16_irqEdge (x : Word) (s : State) : (read16 x s).2.irqEdge = s.irqEdge :=
  (read16_reads x s).field (·.irqEdge) fun _ _ _ _ _ => rfl
@[simp] theorem read16_clockFail (x : Word) (s : State) : (read16 x s).2.clockFail = s.clockFail :=
  (read16_reads x s).field (·.clockFail) fun _ _ _ _ _ => rfl
@[simp] theorem read16_copFail (x : Word) (s : State) : (read16 x s).2.copFail = s.copFail :=
  (read16_reads x s).field (·.copFail) fun _ _ _ _ _ => rfl
@[simp] theorem read16_mode (x : Word) (s : State) : (read16 x s).2.mode = s.mode :=
  (read16_reads x s).field (·.mode) fun _ _ _ _ _ => rfl
@[simp] theorem read16_cycles (x : Word) (s : State) : (read16 x s).2.cycles = s.cycles :=
  (read16_reads x s).field (·.cycles) fun _ _ _ _ _ => rfl
@[simp] theorem read16_env (x : Word) (s : State) : (read16 x s).2.env = s.env :=
  (read16_reads x s).field (·.env) fun _ _ _ _ _ => rfl
@[simp] theorem read16_ramEpoch (x : Word) (s : State) : (read16 x s).2.ramEpoch = s.ramEpoch :=
  (read16_reads x s).field (·.ramEpoch) fun _ _ _ _ _ => rfl
@[simp] theorem read16_tcnt16 (x : Word) (s : State) : (read16 x s).2.tcnt16 = s.tcnt16 :=
  (read16_reads x s).field (·.tcnt16) fun _ _ _ _ _ => rfl

/-! Operands. -/

@[simp] theorem operand8_a (src : Src8) (s : State) : (operand8 src s).2.a = s.a :=
  by cases src <;> simp [operand8]
@[simp] theorem operand8_b (src : Src8) (s : State) : (operand8 src s).2.b = s.b :=
  by cases src <;> simp [operand8]
@[simp] theorem operand8_ix (src : Src8) (s : State) : (operand8 src s).2.ix = s.ix :=
  by cases src <;> simp [operand8]
@[simp] theorem operand8_iy (src : Src8) (s : State) : (operand8 src s).2.iy = s.iy :=
  by cases src <;> simp [operand8]
@[simp] theorem operand8_sp (src : Src8) (s : State) : (operand8 src s).2.sp = s.sp :=
  by cases src <;> simp [operand8]
@[simp] theorem operand8_pc (src : Src8) (s : State) : (operand8 src s).2.pc = s.pc :=
  by cases src <;> simp [operand8]
@[simp] theorem operand8_ccr (src : Src8) (s : State) : (operand8 src s).2.ccr = s.ccr :=
  by cases src <;> simp [operand8]
@[simp] theorem operand8_run (src : Src8) (s : State) : (operand8 src s).2.run = s.run :=
  by cases src <;> simp [operand8]
@[simp] theorem operand8_inhibit (src : Src8) (s : State) : (operand8 src s).2.inhibit = s.inhibit :=
  by cases src <;> simp [operand8]
@[simp] theorem operand8_mem (src : Src8) (s : State) : (operand8 src s).2.mem = s.mem :=
  by cases src <;> simp [operand8]
@[simp] theorem operand8_ports (src : Src8) (s : State) : (operand8 src s).2.ports = s.ports :=
  by cases src <;> simp [operand8]
@[simp] theorem operand8_timer (src : Src8) (s : State) : (operand8 src s).2.timer = s.timer :=
  by cases src <;> simp [operand8]
@[simp] theorem operand8_adc (src : Src8) (s : State) : (operand8 src s).2.adc = s.adc :=
  by cases src <;> simp [operand8]
@[simp] theorem operand8_ee (src : Src8) (s : State) : (operand8 src s).2.ee = s.ee :=
  by cases src <;> simp [operand8]
@[simp] theorem operand8_sys (src : Src8) (s : State) : (operand8 src s).2.sys = s.sys :=
  by cases src <;> simp [operand8]
@[simp] theorem operand8_cop (src : Src8) (s : State) : (operand8 src s).2.cop = s.cop :=
  by cases src <;> simp [operand8]
@[simp] theorem operand8_irqEdge (src : Src8) (s : State) : (operand8 src s).2.irqEdge = s.irqEdge :=
  by cases src <;> simp [operand8]
@[simp] theorem operand8_clockFail (src : Src8) (s : State) : (operand8 src s).2.clockFail = s.clockFail :=
  by cases src <;> simp [operand8]
@[simp] theorem operand8_copFail (src : Src8) (s : State) : (operand8 src s).2.copFail = s.copFail :=
  by cases src <;> simp [operand8]
@[simp] theorem operand8_mode (src : Src8) (s : State) : (operand8 src s).2.mode = s.mode :=
  by cases src <;> simp [operand8]
@[simp] theorem operand8_cycles (src : Src8) (s : State) : (operand8 src s).2.cycles = s.cycles :=
  by cases src <;> simp [operand8]
@[simp] theorem operand8_env (src : Src8) (s : State) : (operand8 src s).2.env = s.env :=
  by cases src <;> simp [operand8]
@[simp] theorem operand8_ramEpoch (src : Src8) (s : State) : (operand8 src s).2.ramEpoch = s.ramEpoch :=
  by cases src <;> simp [operand8]
@[simp] theorem operand8_tcnt16 (src : Src8) (s : State) : (operand8 src s).2.tcnt16 = s.tcnt16 :=
  by cases src <;> simp [operand8]
@[simp] theorem operand16_a (src : Src16) (s : State) : (operand16 src s).2.a = s.a :=
  by cases src <;> simp [operand16]
@[simp] theorem operand16_b (src : Src16) (s : State) : (operand16 src s).2.b = s.b :=
  by cases src <;> simp [operand16]
@[simp] theorem operand16_ix (src : Src16) (s : State) : (operand16 src s).2.ix = s.ix :=
  by cases src <;> simp [operand16]
@[simp] theorem operand16_iy (src : Src16) (s : State) : (operand16 src s).2.iy = s.iy :=
  by cases src <;> simp [operand16]
@[simp] theorem operand16_sp (src : Src16) (s : State) : (operand16 src s).2.sp = s.sp :=
  by cases src <;> simp [operand16]
@[simp] theorem operand16_pc (src : Src16) (s : State) : (operand16 src s).2.pc = s.pc :=
  by cases src <;> simp [operand16]
@[simp] theorem operand16_ccr (src : Src16) (s : State) : (operand16 src s).2.ccr = s.ccr :=
  by cases src <;> simp [operand16]
@[simp] theorem operand16_run (src : Src16) (s : State) : (operand16 src s).2.run = s.run :=
  by cases src <;> simp [operand16]
@[simp] theorem operand16_inhibit (src : Src16) (s : State) : (operand16 src s).2.inhibit = s.inhibit :=
  by cases src <;> simp [operand16]
@[simp] theorem operand16_mem (src : Src16) (s : State) : (operand16 src s).2.mem = s.mem :=
  by cases src <;> simp [operand16]
@[simp] theorem operand16_ports (src : Src16) (s : State) : (operand16 src s).2.ports = s.ports :=
  by cases src <;> simp [operand16]
@[simp] theorem operand16_timer (src : Src16) (s : State) : (operand16 src s).2.timer = s.timer :=
  by cases src <;> simp [operand16]
@[simp] theorem operand16_adc (src : Src16) (s : State) : (operand16 src s).2.adc = s.adc :=
  by cases src <;> simp [operand16]
@[simp] theorem operand16_ee (src : Src16) (s : State) : (operand16 src s).2.ee = s.ee :=
  by cases src <;> simp [operand16]
@[simp] theorem operand16_sys (src : Src16) (s : State) : (operand16 src s).2.sys = s.sys :=
  by cases src <;> simp [operand16]
@[simp] theorem operand16_cop (src : Src16) (s : State) : (operand16 src s).2.cop = s.cop :=
  by cases src <;> simp [operand16]
@[simp] theorem operand16_irqEdge (src : Src16) (s : State) : (operand16 src s).2.irqEdge = s.irqEdge :=
  by cases src <;> simp [operand16]
@[simp] theorem operand16_clockFail (src : Src16) (s : State) : (operand16 src s).2.clockFail = s.clockFail :=
  by cases src <;> simp [operand16]
@[simp] theorem operand16_copFail (src : Src16) (s : State) : (operand16 src s).2.copFail = s.copFail :=
  by cases src <;> simp [operand16]
@[simp] theorem operand16_mode (src : Src16) (s : State) : (operand16 src s).2.mode = s.mode :=
  by cases src <;> simp [operand16]
@[simp] theorem operand16_cycles (src : Src16) (s : State) : (operand16 src s).2.cycles = s.cycles :=
  by cases src <;> simp [operand16]
@[simp] theorem operand16_env (src : Src16) (s : State) : (operand16 src s).2.env = s.env :=
  by cases src <;> simp [operand16]
@[simp] theorem operand16_ramEpoch (src : Src16) (s : State) : (operand16 src s).2.ramEpoch = s.ramEpoch :=
  by cases src <;> simp [operand16]
@[simp] theorem operand16_tcnt16 (src : Src16) (s : State) : (operand16 src s).2.tcnt16 = s.tcnt16 :=
  by cases src <;> simp [operand16]

/-! Byte and word writes. -/

@[simp] theorem writeByte_a (x : Word) (v : Byte) (s : State) : (writeByte x v s).a = s.a :=
  (writeByte_writes x v s).field (·.a) fun _ _ _ _ _ _ _ _ _ _ _ _ => rfl
@[simp] theorem writeByte_b (x : Word) (v : Byte) (s : State) : (writeByte x v s).b = s.b :=
  (writeByte_writes x v s).field (·.b) fun _ _ _ _ _ _ _ _ _ _ _ _ => rfl
@[simp] theorem writeByte_ix (x : Word) (v : Byte) (s : State) : (writeByte x v s).ix = s.ix :=
  (writeByte_writes x v s).field (·.ix) fun _ _ _ _ _ _ _ _ _ _ _ _ => rfl
@[simp] theorem writeByte_iy (x : Word) (v : Byte) (s : State) : (writeByte x v s).iy = s.iy :=
  (writeByte_writes x v s).field (·.iy) fun _ _ _ _ _ _ _ _ _ _ _ _ => rfl
@[simp] theorem writeByte_sp (x : Word) (v : Byte) (s : State) : (writeByte x v s).sp = s.sp :=
  (writeByte_writes x v s).field (·.sp) fun _ _ _ _ _ _ _ _ _ _ _ _ => rfl
@[simp] theorem writeByte_pc (x : Word) (v : Byte) (s : State) : (writeByte x v s).pc = s.pc :=
  (writeByte_writes x v s).field (·.pc) fun _ _ _ _ _ _ _ _ _ _ _ _ => rfl
@[simp] theorem writeByte_ccr (x : Word) (v : Byte) (s : State) : (writeByte x v s).ccr = s.ccr :=
  (writeByte_writes x v s).field (·.ccr) fun _ _ _ _ _ _ _ _ _ _ _ _ => rfl
@[simp] theorem writeByte_run (x : Word) (v : Byte) (s : State) : (writeByte x v s).run = s.run :=
  (writeByte_writes x v s).field (·.run) fun _ _ _ _ _ _ _ _ _ _ _ _ => rfl
@[simp] theorem writeByte_inhibit (x : Word) (v : Byte) (s : State) : (writeByte x v s).inhibit = s.inhibit :=
  (writeByte_writes x v s).field (·.inhibit) fun _ _ _ _ _ _ _ _ _ _ _ _ => rfl
@[simp] theorem writeByte_irqEdge (x : Word) (v : Byte) (s : State) : (writeByte x v s).irqEdge = s.irqEdge :=
  (writeByte_writes x v s).field (·.irqEdge) fun _ _ _ _ _ _ _ _ _ _ _ _ => rfl
@[simp] theorem writeByte_clockFail (x : Word) (v : Byte) (s : State) : (writeByte x v s).clockFail = s.clockFail :=
  (writeByte_writes x v s).field (·.clockFail) fun _ _ _ _ _ _ _ _ _ _ _ _ => rfl
@[simp] theorem writeByte_copFail (x : Word) (v : Byte) (s : State) : (writeByte x v s).copFail = s.copFail :=
  (writeByte_writes x v s).field (·.copFail) fun _ _ _ _ _ _ _ _ _ _ _ _ => rfl
@[simp] theorem writeByte_mode (x : Word) (v : Byte) (s : State) : (writeByte x v s).mode = s.mode :=
  (writeByte_writes x v s).field (·.mode) fun _ _ _ _ _ _ _ _ _ _ _ _ => rfl
@[simp] theorem writeByte_cycles (x : Word) (v : Byte) (s : State) : (writeByte x v s).cycles = s.cycles :=
  (writeByte_writes x v s).field (·.cycles) fun _ _ _ _ _ _ _ _ _ _ _ _ => rfl
@[simp] theorem writeByte_env (x : Word) (v : Byte) (s : State) : (writeByte x v s).env = s.env :=
  (writeByte_writes x v s).field (·.env) fun _ _ _ _ _ _ _ _ _ _ _ _ => rfl
@[simp] theorem writeByte_ramEpoch (x : Word) (v : Byte) (s : State) : (writeByte x v s).ramEpoch = s.ramEpoch :=
  (writeByte_writes x v s).field (·.ramEpoch) fun _ _ _ _ _ _ _ _ _ _ _ _ => rfl
@[simp] theorem writeByte_tcnt16 (x : Word) (v : Byte) (s : State) : (writeByte x v s).tcnt16 = s.tcnt16 :=
  (writeByte_writes x v s).field (·.tcnt16) fun _ _ _ _ _ _ _ _ _ _ _ _ => rfl
@[simp] theorem write16_a (x v : Word) (s : State) : (write16 x v s).a = s.a :=
  (write16_writes x v s).field (·.a) fun _ _ _ _ _ _ _ _ _ _ _ _ => rfl
@[simp] theorem write16_b (x v : Word) (s : State) : (write16 x v s).b = s.b :=
  (write16_writes x v s).field (·.b) fun _ _ _ _ _ _ _ _ _ _ _ _ => rfl
@[simp] theorem write16_ix (x v : Word) (s : State) : (write16 x v s).ix = s.ix :=
  (write16_writes x v s).field (·.ix) fun _ _ _ _ _ _ _ _ _ _ _ _ => rfl
@[simp] theorem write16_iy (x v : Word) (s : State) : (write16 x v s).iy = s.iy :=
  (write16_writes x v s).field (·.iy) fun _ _ _ _ _ _ _ _ _ _ _ _ => rfl
@[simp] theorem write16_sp (x v : Word) (s : State) : (write16 x v s).sp = s.sp :=
  (write16_writes x v s).field (·.sp) fun _ _ _ _ _ _ _ _ _ _ _ _ => rfl
@[simp] theorem write16_pc (x v : Word) (s : State) : (write16 x v s).pc = s.pc :=
  (write16_writes x v s).field (·.pc) fun _ _ _ _ _ _ _ _ _ _ _ _ => rfl
@[simp] theorem write16_ccr (x v : Word) (s : State) : (write16 x v s).ccr = s.ccr :=
  (write16_writes x v s).field (·.ccr) fun _ _ _ _ _ _ _ _ _ _ _ _ => rfl
@[simp] theorem write16_run (x v : Word) (s : State) : (write16 x v s).run = s.run :=
  (write16_writes x v s).field (·.run) fun _ _ _ _ _ _ _ _ _ _ _ _ => rfl
@[simp] theorem write16_inhibit (x v : Word) (s : State) : (write16 x v s).inhibit = s.inhibit :=
  (write16_writes x v s).field (·.inhibit) fun _ _ _ _ _ _ _ _ _ _ _ _ => rfl
@[simp] theorem write16_irqEdge (x v : Word) (s : State) : (write16 x v s).irqEdge = s.irqEdge :=
  (write16_writes x v s).field (·.irqEdge) fun _ _ _ _ _ _ _ _ _ _ _ _ => rfl
@[simp] theorem write16_clockFail (x v : Word) (s : State) : (write16 x v s).clockFail = s.clockFail :=
  (write16_writes x v s).field (·.clockFail) fun _ _ _ _ _ _ _ _ _ _ _ _ => rfl
@[simp] theorem write16_copFail (x v : Word) (s : State) : (write16 x v s).copFail = s.copFail :=
  (write16_writes x v s).field (·.copFail) fun _ _ _ _ _ _ _ _ _ _ _ _ => rfl
@[simp] theorem write16_mode (x v : Word) (s : State) : (write16 x v s).mode = s.mode :=
  (write16_writes x v s).field (·.mode) fun _ _ _ _ _ _ _ _ _ _ _ _ => rfl
@[simp] theorem write16_cycles (x v : Word) (s : State) : (write16 x v s).cycles = s.cycles :=
  (write16_writes x v s).field (·.cycles) fun _ _ _ _ _ _ _ _ _ _ _ _ => rfl
@[simp] theorem write16_env (x v : Word) (s : State) : (write16 x v s).env = s.env :=
  (write16_writes x v s).field (·.env) fun _ _ _ _ _ _ _ _ _ _ _ _ => rfl
@[simp] theorem write16_ramEpoch (x v : Word) (s : State) : (write16 x v s).ramEpoch = s.ramEpoch :=
  (write16_writes x v s).field (·.ramEpoch) fun _ _ _ _ _ _ _ _ _ _ _ _ => rfl
@[simp] theorem write16_tcnt16 (x v : Word) (s : State) : (write16 x v s).tcnt16 = s.tcnt16 :=
  (write16_writes x v s).field (·.tcnt16) fun _ _ _ _ _ _ _ _ _ _ _ _ => rfl

/-! Stack. -/

@[simp] theorem push8_a (v : Byte) (s : State) : (push8 v s).a = s.a := by simp [push8]
@[simp] theorem push8_b (v : Byte) (s : State) : (push8 v s).b = s.b := by simp [push8]
@[simp] theorem push8_ix (v : Byte) (s : State) : (push8 v s).ix = s.ix := by simp [push8]
@[simp] theorem push8_iy (v : Byte) (s : State) : (push8 v s).iy = s.iy := by simp [push8]
@[simp] theorem push8_sp (v : Byte) (s : State) : (push8 v s).sp = s.sp - 1 := by simp [push8]
@[simp] theorem push8_pc (v : Byte) (s : State) : (push8 v s).pc = s.pc := by simp [push8]
@[simp] theorem push8_ccr (v : Byte) (s : State) : (push8 v s).ccr = s.ccr := by simp [push8]
@[simp] theorem push8_run (v : Byte) (s : State) : (push8 v s).run = s.run := by simp [push8]
@[simp] theorem push8_inhibit (v : Byte) (s : State) : (push8 v s).inhibit = s.inhibit :=
  by simp [push8]
@[simp] theorem push8_irqEdge (v : Byte) (s : State) : (push8 v s).irqEdge = s.irqEdge :=
  by simp [push8]
@[simp] theorem push8_clockFail (v : Byte) (s : State) : (push8 v s).clockFail = s.clockFail :=
  by simp [push8]
@[simp] theorem push8_copFail (v : Byte) (s : State) : (push8 v s).copFail = s.copFail :=
  by simp [push8]
@[simp] theorem push8_mode (v : Byte) (s : State) : (push8 v s).mode = s.mode := by simp [push8]
@[simp] theorem push8_cycles (v : Byte) (s : State) : (push8 v s).cycles = s.cycles :=
  by simp [push8]
@[simp] theorem push8_env (v : Byte) (s : State) : (push8 v s).env = s.env := by simp [push8]
@[simp] theorem push8_ramEpoch (v : Byte) (s : State) : (push8 v s).ramEpoch = s.ramEpoch :=
  by simp [push8]
@[simp] theorem push8_tcnt16 (v : Byte) (s : State) : (push8 v s).tcnt16 = s.tcnt16 :=
  by simp [push8]
@[simp] theorem push16_a (v : Word) (s : State) : (push16 v s).a = s.a := by simp [push16]
@[simp] theorem push16_b (v : Word) (s : State) : (push16 v s).b = s.b := by simp [push16]
@[simp] theorem push16_ix (v : Word) (s : State) : (push16 v s).ix = s.ix := by simp [push16]
@[simp] theorem push16_iy (v : Word) (s : State) : (push16 v s).iy = s.iy := by simp [push16]
@[simp] theorem push16_sp (v : Word) (s : State) : (push16 v s).sp = s.sp - 1 - 1 :=
  by simp [push16]
@[simp] theorem push16_pc (v : Word) (s : State) : (push16 v s).pc = s.pc := by simp [push16]
@[simp] theorem push16_ccr (v : Word) (s : State) : (push16 v s).ccr = s.ccr := by simp [push16]
@[simp] theorem push16_run (v : Word) (s : State) : (push16 v s).run = s.run := by simp [push16]
@[simp] theorem push16_inhibit (v : Word) (s : State) : (push16 v s).inhibit = s.inhibit :=
  by simp [push16]
@[simp] theorem push16_irqEdge (v : Word) (s : State) : (push16 v s).irqEdge = s.irqEdge :=
  by simp [push16]
@[simp] theorem push16_clockFail (v : Word) (s : State) : (push16 v s).clockFail = s.clockFail :=
  by simp [push16]
@[simp] theorem push16_copFail (v : Word) (s : State) : (push16 v s).copFail = s.copFail :=
  by simp [push16]
@[simp] theorem push16_mode (v : Word) (s : State) : (push16 v s).mode = s.mode := by simp [push16]
@[simp] theorem push16_cycles (v : Word) (s : State) : (push16 v s).cycles = s.cycles :=
  by simp [push16]
@[simp] theorem push16_env (v : Word) (s : State) : (push16 v s).env = s.env := by simp [push16]
@[simp] theorem push16_ramEpoch (v : Word) (s : State) : (push16 v s).ramEpoch = s.ramEpoch :=
  by simp [push16]
@[simp] theorem push16_tcnt16 (v : Word) (s : State) : (push16 v s).tcnt16 = s.tcnt16 :=
  by simp [push16]
@[simp] theorem pull8_a (s : State) : (pull8 s).2.a = s.a := by simp [pull8]
@[simp] theorem pull8_b (s : State) : (pull8 s).2.b = s.b := by simp [pull8]
@[simp] theorem pull8_ix (s : State) : (pull8 s).2.ix = s.ix := by simp [pull8]
@[simp] theorem pull8_iy (s : State) : (pull8 s).2.iy = s.iy := by simp [pull8]
@[simp] theorem pull8_sp (s : State) : (pull8 s).2.sp = s.sp + 1 := by simp [pull8]
@[simp] theorem pull8_pc (s : State) : (pull8 s).2.pc = s.pc := by simp [pull8]
@[simp] theorem pull8_ccr (s : State) : (pull8 s).2.ccr = s.ccr := by simp [pull8]
@[simp] theorem pull8_run (s : State) : (pull8 s).2.run = s.run := by simp [pull8]
@[simp] theorem pull8_inhibit (s : State) : (pull8 s).2.inhibit = s.inhibit := by simp [pull8]
@[simp] theorem pull8_mem (s : State) : (pull8 s).2.mem = s.mem := by simp [pull8]
@[simp] theorem pull8_ports (s : State) : (pull8 s).2.ports = s.ports := by simp [pull8]
@[simp] theorem pull8_timer (s : State) : (pull8 s).2.timer = s.timer := by simp [pull8]
@[simp] theorem pull8_adc (s : State) : (pull8 s).2.adc = s.adc := by simp [pull8]
@[simp] theorem pull8_ee (s : State) : (pull8 s).2.ee = s.ee := by simp [pull8]
@[simp] theorem pull8_sys (s : State) : (pull8 s).2.sys = s.sys := by simp [pull8]
@[simp] theorem pull8_cop (s : State) : (pull8 s).2.cop = s.cop := by simp [pull8]
@[simp] theorem pull8_irqEdge (s : State) : (pull8 s).2.irqEdge = s.irqEdge := by simp [pull8]
@[simp] theorem pull8_clockFail (s : State) : (pull8 s).2.clockFail = s.clockFail :=
  by simp [pull8]
@[simp] theorem pull8_copFail (s : State) : (pull8 s).2.copFail = s.copFail := by simp [pull8]
@[simp] theorem pull8_mode (s : State) : (pull8 s).2.mode = s.mode := by simp [pull8]
@[simp] theorem pull8_cycles (s : State) : (pull8 s).2.cycles = s.cycles := by simp [pull8]
@[simp] theorem pull8_env (s : State) : (pull8 s).2.env = s.env := by simp [pull8]
@[simp] theorem pull8_ramEpoch (s : State) : (pull8 s).2.ramEpoch = s.ramEpoch := by simp [pull8]
@[simp] theorem pull8_tcnt16 (s : State) : (pull8 s).2.tcnt16 = s.tcnt16 := by simp [pull8]
@[simp] theorem pull16_a (s : State) : (pull16 s).2.a = s.a := by simp [pull16]
@[simp] theorem pull16_b (s : State) : (pull16 s).2.b = s.b := by simp [pull16]
@[simp] theorem pull16_ix (s : State) : (pull16 s).2.ix = s.ix := by simp [pull16]
@[simp] theorem pull16_iy (s : State) : (pull16 s).2.iy = s.iy := by simp [pull16]
@[simp] theorem pull16_sp (s : State) : (pull16 s).2.sp = s.sp + 1 + 1 := by simp [pull16]
@[simp] theorem pull16_pc (s : State) : (pull16 s).2.pc = s.pc := by simp [pull16]
@[simp] theorem pull16_ccr (s : State) : (pull16 s).2.ccr = s.ccr := by simp [pull16]
@[simp] theorem pull16_run (s : State) : (pull16 s).2.run = s.run := by simp [pull16]
@[simp] theorem pull16_inhibit (s : State) : (pull16 s).2.inhibit = s.inhibit := by simp [pull16]
@[simp] theorem pull16_mem (s : State) : (pull16 s).2.mem = s.mem := by simp [pull16]
@[simp] theorem pull16_ports (s : State) : (pull16 s).2.ports = s.ports := by simp [pull16]
@[simp] theorem pull16_timer (s : State) : (pull16 s).2.timer = s.timer := by simp [pull16]
@[simp] theorem pull16_adc (s : State) : (pull16 s).2.adc = s.adc := by simp [pull16]
@[simp] theorem pull16_ee (s : State) : (pull16 s).2.ee = s.ee := by simp [pull16]
@[simp] theorem pull16_sys (s : State) : (pull16 s).2.sys = s.sys := by simp [pull16]
@[simp] theorem pull16_cop (s : State) : (pull16 s).2.cop = s.cop := by simp [pull16]
@[simp] theorem pull16_irqEdge (s : State) : (pull16 s).2.irqEdge = s.irqEdge := by simp [pull16]
@[simp] theorem pull16_clockFail (s : State) : (pull16 s).2.clockFail = s.clockFail :=
  by simp [pull16]
@[simp] theorem pull16_copFail (s : State) : (pull16 s).2.copFail = s.copFail := by simp [pull16]
@[simp] theorem pull16_mode (s : State) : (pull16 s).2.mode = s.mode := by simp [pull16]
@[simp] theorem pull16_cycles (s : State) : (pull16 s).2.cycles = s.cycles := by simp [pull16]
@[simp] theorem pull16_env (s : State) : (pull16 s).2.env = s.env := by simp [pull16]
@[simp] theorem pull16_ramEpoch (s : State) : (pull16 s).2.ramEpoch = s.ramEpoch :=
  by simp [pull16]
@[simp] theorem pull16_tcnt16 (s : State) : (pull16 s).2.tcnt16 = s.tcnt16 := by simp [pull16]

/-! Exception frames. -/

@[simp] theorem stackRegisters_a (s : State) : (stackRegisters s).a = s.a :=
  by simp [stackRegisters]
@[simp] theorem stackRegisters_b (s : State) : (stackRegisters s).b = s.b :=
  by simp [stackRegisters]
@[simp] theorem stackRegisters_ix (s : State) : (stackRegisters s).ix = s.ix :=
  by simp [stackRegisters]
@[simp] theorem stackRegisters_iy (s : State) : (stackRegisters s).iy = s.iy :=
  by simp [stackRegisters]
@[simp] theorem stackRegisters_sp (s : State) : (stackRegisters s).sp = s.sp - 9 :=
  by simp [stackRegisters]; bv_omega
@[simp] theorem stackRegisters_pc (s : State) : (stackRegisters s).pc = s.pc :=
  by simp [stackRegisters]
@[simp] theorem stackRegisters_ccr (s : State) : (stackRegisters s).ccr = s.ccr :=
  by simp [stackRegisters]
@[simp] theorem stackRegisters_run (s : State) : (stackRegisters s).run = s.run :=
  by simp [stackRegisters]
@[simp] theorem stackRegisters_inhibit (s : State) : (stackRegisters s).inhibit = s.inhibit :=
  by simp [stackRegisters]
@[simp] theorem stackRegisters_irqEdge (s : State) : (stackRegisters s).irqEdge = s.irqEdge :=
  by simp [stackRegisters]
@[simp] theorem stackRegisters_clockFail (s : State) : (stackRegisters s).clockFail = s.clockFail :=
  by simp [stackRegisters]
@[simp] theorem stackRegisters_copFail (s : State) : (stackRegisters s).copFail = s.copFail :=
  by simp [stackRegisters]
@[simp] theorem stackRegisters_mode (s : State) : (stackRegisters s).mode = s.mode :=
  by simp [stackRegisters]
@[simp] theorem stackRegisters_cycles (s : State) : (stackRegisters s).cycles = s.cycles :=
  by simp [stackRegisters]
@[simp] theorem stackRegisters_env (s : State) : (stackRegisters s).env = s.env :=
  by simp [stackRegisters]
@[simp] theorem stackRegisters_ramEpoch (s : State) : (stackRegisters s).ramEpoch = s.ramEpoch :=
  by simp [stackRegisters]
@[simp] theorem stackRegisters_tcnt16 (s : State) : (stackRegisters s).tcnt16 = s.tcnt16 :=
  by simp [stackRegisters]
@[simp] theorem enter_a (x : Word) (b : Bool) (s : State) : (enter x b s).a = s.a :=
  by simp [enter, vectorTo]
@[simp] theorem enter_b (x : Word) (b : Bool) (s : State) : (enter x b s).b = s.b :=
  by simp [enter, vectorTo]
@[simp] theorem enter_ix (x : Word) (b : Bool) (s : State) : (enter x b s).ix = s.ix :=
  by simp [enter, vectorTo]
@[simp] theorem enter_iy (x : Word) (b : Bool) (s : State) : (enter x b s).iy = s.iy :=
  by simp [enter, vectorTo]
@[simp] theorem enter_run (x : Word) (b : Bool) (s : State) : (enter x b s).run = s.run :=
  by simp [enter, vectorTo]
@[simp] theorem enter_inhibit (x : Word) (b : Bool) (s : State) : (enter x b s).inhibit = s.inhibit :=
  by simp [enter, vectorTo]
@[simp] theorem enter_irqEdge (x : Word) (b : Bool) (s : State) : (enter x b s).irqEdge = s.irqEdge :=
  by simp [enter, vectorTo]
@[simp] theorem enter_clockFail (x : Word) (b : Bool) (s : State) : (enter x b s).clockFail = s.clockFail :=
  by simp [enter, vectorTo]
@[simp] theorem enter_copFail (x : Word) (b : Bool) (s : State) : (enter x b s).copFail = s.copFail :=
  by simp [enter, vectorTo]
@[simp] theorem enter_mode (x : Word) (b : Bool) (s : State) : (enter x b s).mode = s.mode :=
  by simp [enter, vectorTo]
@[simp] theorem enter_cycles (x : Word) (b : Bool) (s : State) : (enter x b s).cycles = s.cycles :=
  by simp [enter, vectorTo]
@[simp] theorem enter_env (x : Word) (b : Bool) (s : State) : (enter x b s).env = s.env :=
  by simp [enter, vectorTo]
@[simp] theorem enter_ramEpoch (x : Word) (b : Bool) (s : State) : (enter x b s).ramEpoch = s.ramEpoch :=
  by simp [enter, vectorTo]
@[simp] theorem enter_tcnt16 (x : Word) (b : Bool) (s : State) : (enter x b s).tcnt16 = s.tcnt16 :=
  by simp [enter, vectorTo]
@[simp] theorem enter_sp (x : Word) (b : Bool) (s : State) : (enter x b s).sp = s.sp - 9 := by
  simp [enter, vectorTo]

/-- An entry sets I, and X where asked; the other condition codes stay (60 R440). -/
@[simp] theorem enter_ccr (x : Word) (b : Bool) (s : State) :
    (enter x b s).ccr = { s.ccr with i := true, x := s.ccr.x || b } := by
  simp [enter, vectorTo]

end Sys2Proof.Laws
end

