-- ==== Sys2Proof/Laws/Map.lean ====
section
/-! SUPPORT.
The address map and looking at memory: what they depend on, that two addresses never select one byte of
memory, and what a read leaves alone of what can be looked at.
-/

namespace Sys2Proof.Laws

open Sys2Proof.Machine

/-- The map depends on the mapping registers and the environment only. -/
theorem resolve_congr {s t : State} (h1 : t.sys = s.sys) (h2 : t.env = s.env) (a : Word) :
    resolve t a = resolve s a := by
  cases s; cases t; simp only at h1 h2; subst h1 h2; rfl

theorem isReg_congr {s t : State} (h1 : t.sys = s.sys) (h2 : t.env = s.env) (a : Word) :
    isReg t a = isReg s a := by simp [isReg, resolve_congr h1 h2]

theorem isCell_congr {s t : State} (h1 : t.sys = s.sys) (h2 : t.env = s.env) (a : Word) :
    isCell t a = isCell s a := by simp [isCell, resolve_congr h1 h2]

/-- Outside the register block, looking at an address depends on the map,
EELAT and the byte selected. -/
theorem peek_congr {s t : State} (h1 : t.sys = s.sys) (h2 : t.env = s.env)
    (h3 : t.ee.pprog = s.ee.pprog) (h4 : t.ramEpoch = s.ramEpoch) (a : Word) (hr : isReg s a = false)
    (hm : ∀ r off, resolve s a = .mem r off → t.mem.get r off = s.mem.get r off) :
    peek t a = peek s a := by
  unfold peek
  rw [resolve_congr h1 h2]
  simp only [isReg] at hr
  split
  · rename_i h; simp [h] at hr
  all_goals (have e : t.eelat = s.eelat := by simp [State.eelat, h3]); simp_all

/-- Memory is the same outside `w` where the map is and the bytes selected there are. -/
theorem memorySame_of {s t : State} {w : Word → Prop} (h1 : t.sys = s.sys) (h2 : t.env = s.env)
    (h3 : t.ee.pprog = s.ee.pprog) (h4 : t.ramEpoch = s.ramEpoch)
    (hm : ∀ a, ¬ w a → ∀ r off, resolve s a = .mem r off → t.mem.get r off = s.mem.get r off) :
    memorySame s t w := by
  intro a ha hr
  exact ⟨by rw [isReg_congr h1 h2, hr], peek_congr h1 h2 h3 h4 a hr (hm a ha)⟩

theorem resolve_ram_lt {s : State} {a : Word} {off : Nat} (h : resolve s a = .mem .ram off) :
    off < 1024 := by
  unfold resolve at h
  have hz : Config.ramSize = 1024 := rfl
  simp only at *
  split at h
  · simp at h
  · split at h
    · simp at h; omega
    · split at h
      · simp at h
      · split at h
        · simp at h
        · split at h <;> simp at h

theorem resolve_ext_lt {s : State} {a : Word} {off : Nat} (h : resolve s a = .mem .ext off) :
    off < 65536 := by
  have := a.isLt
  unfold resolve at h
  simp only at *
  split at h
  · simp at h
  · split at h
    · simp at h
    · split at h
      · simp at h
      · split at h
        · simp at h
        · split at h <;> simp at h; omega

/-- Two addresses never select one byte of memory. -/
theorem resolve_inj {s : State} {a b : Word} {r : Region} {off : Nat} (h : resolve s a = .mem r off)
    (k : resolve s b = .mem r off) : a = b := by
  unfold resolve at h k
  have := a.isLt
  have := b.isLt
  apply BitVec.eq_of_toNat_eq
  generalize eepromBase s = e at *
  generalize a.toNat = x at *
  generalize b.toNat = y at *
  have hz : Config.ramSize = 1024 := rfl
  simp only at *
  split at h
  · simp at h
  split at h
  · split at k
    · simp at k
    split at k
    · simp at h k; omega
    split at k
    · simp at h k; simp [← h.1] at k
    split at k
    · simp at h k; simp [← h.1] at k
    split at k
    · simp at h k; simp [← h.1] at k
    · simp at k
  split at h
  · split at k
    · simp at k
    split at k
    · simp at h k; simp [← h.1] at k
    split at k
    · simp at h k; omega
    split at k
    · simp at h k; simp [← h.1] at k
    split at k
    · simp at h k; simp [← h.1] at k
    · simp at k
  split at h
  · split at k
    · simp at k
    split at k
    · simp at h k; simp [← h.1] at k
    split at k
    · simp at h k; simp [← h.1] at k
    split at k
    · simp at h k; omega
    split at k
    · simp at h k; simp [← h.1] at k
    · simp at k
  split at h
  · split at k
    · simp at k
    split at k
    · simp at h k; simp [← h.1] at k
    split at k
    · simp at h k; simp [← h.1] at k
    split at k
    · simp at h k; simp [← h.1] at k
    · simp at h k; omega
  · simp at h

theorem isCell_notReg {s : State} {a : Word} (h : isCell s a = true) : isReg s a = false := by
  unfold isCell at h; unfold isReg
  split <;> simp_all

/-- A read outside the register block leaves the serial units alone. -/
theorem readByte_serial (a : Word) (s : State) (h : isReg s a = false) :
    serialSame s (readByte a s).2 := by
  unfold isReg at h
  unfold readByte
  split <;> simp_all
  · unfold serialSame readArray
    split
    · simp [drawByte, State.drawn]
    · split
      · simp
      · simp [openByte, drawByte, State.drawn]
  · rename_i r off _ hr
    unfold serialSame readArray
    split
    · simp [drawByte, State.drawn]
    · split
      · simp
      · cases r <;> simp [openByte, drawByte, State.drawn]
  · simp [serialSame, drawByte, State.drawn]

/-- A read that leaves the serial units alone leaves everything that can be looked at alone. -/
theorem peek_after_read {s t : State} (h : ReadChanges s t) (hs : serialSame s t) (a : Word) :
    peek t a = peek s a := by
  obtain ⟨_, _, _, _, rfl⟩ := h
  simp [serialSame] at hs
  obtain ⟨rfl, rfl⟩ := hs
  rfl

theorem onlyRead_refl (s : State) : onlyRead s s false :=
  ⟨fun a _ h => ⟨h, rfl⟩, by simp [devicesSame], rfl, fun _ => by simp [serialSame]⟩

theorem onlyRead_trans {s t u : State} {p q : Bool} (h : onlyRead s t p) (k : onlyRead t u q) :
    onlyRead s u (p || q) := by
  refine ⟨?_, ?_, k.2.2.1.trans h.2.2.1, ?_⟩
  · intro a ha hr
    have h1 := h.1 a ha hr
    have h2 := k.1 a ha h1.1
    exact ⟨h2.1, h2.2.trans h1.2⟩
  · have := h.2.1; have := k.2.1; simp only [devicesSame] at *; simp_all
  · intro hh
    simp at hh
    have := h.2.2.2 hh.1; have := k.2.2.2 hh.2; simp only [serialSame] at *; simp_all

end Sys2Proof.Laws
end

