-- ==== Sys2Proof/Laws/PerInstr.lean ====
section
/-! SUPPORT.
The size of an encoding, instruction by instruction: a well-formed instruction has 1 to 5 bytes
(30 R171, R173), and a form the table does not have has none.
-/

namespace Sys2Proof.Laws.EncodedSize

/-- Between one and five bytes where well formed, none where not. -/
def Statement (i : Instr) : Prop :=
  (i.wf = true → 1 ≤ (encode i).length ∧ (encode i).length ≤ 5) ∧ (i.wf = false → encode i = [])

theorem encMem_size (p x y : List Byte) (d : Byte) (m : MemOp)
    (hp : p.length ≤ 1) (hx : x.length ≤ 1) (hy : y.length ≤ 1) :
    1 ≤ (encMem p x y d m).length ∧ (encMem p x y d m).length ≤ 5 := by
  cases m <;> simp [encMem] <;> omega

theorem encSrc8_size (op : Byte) (src : Src8) :
    1 ≤ (encSrc8 op src).length ∧ (encSrc8 op src).length ≤ 5 := by
  cases src with
  | imm ii => simp [encSrc8]
  | mem m => exact encMem_size _ _ _ _ m (by decide) (by decide) (by decide)

theorem encSrc16_size (p x y : List Byte) (op : Byte) (src : Src16)
    (hp : p.length ≤ 1) (hx : x.length ≤ 1) (hy : y.length ≤ 1) :
    1 ≤ (encSrc16 p x y op src).length ∧ (encSrc16 p x y op src).length ≤ 5 := by
  cases src with
  | imm w => simp [encSrc16]; omega
  | mem m => exact encMem_size _ _ _ _ m hp hx hy

theorem encRmw_size (x : Byte) (m : MemOp) :
    (m.notDir = true → 1 ≤ (encRmw x m).length ∧ (encRmw x m).length ≤ 5) ∧
      (m.notDir = false → encRmw x m = []) := by
  cases m <;> simp [encRmw, MemOp.notDir]

theorem encBit_size (d x : Byte) (tail : List Byte) (m : MemOp) (h : tail.length ≤ 2) :
    (m.notExt = true → 1 ≤ (encBit d x tail m).length ∧ (encBit d x tail m).length ≤ 5) ∧
      (m.notExt = false → encBit d x tail m = []) := by
  cases m <;> simp [encBit, MemOp.notExt] <;> omega

/-- A statement for an instruction all of whose forms exist. -/
theorem of_size {i : Instr} (hw : i.wf = true)
    (h : 1 ≤ (encode i).length ∧ (encode i).length ≤ 5) : Statement i :=
  ⟨fun _ => h, fun hf => by rw [hw] at hf; cases hf⟩

theorem ldaa (src : Src8) : Statement (.ldaa src) := of_size rfl (encSrc8_size _ src)
theorem ldab (src : Src8) : Statement (.ldab src) := of_size rfl (encSrc8_size _ src)
theorem ldd (src : Src16) : Statement (.ldd src) :=
  of_size rfl (encSrc16_size _ _ _ _ src (by decide) (by decide) (by decide))
theorem lds (src : Src16) : Statement (.lds src) :=
  of_size rfl (encSrc16_size _ _ _ _ src (by decide) (by decide) (by decide))
theorem ldx (src : Src16) : Statement (.ldx src) :=
  of_size rfl (encSrc16_size _ _ _ _ src (by decide) (by decide) (by decide))
theorem ldy (src : Src16) : Statement (.ldy src) :=
  of_size rfl (encSrc16_size _ _ _ _ src (by decide) (by decide) (by decide))
theorem staa (dst : MemOp) : Statement (.staa dst) :=
  of_size rfl (encMem_size _ _ _ _ dst (by decide) (by decide) (by decide))
theorem stab (dst : MemOp) : Statement (.stab dst) :=
  of_size rfl (encMem_size _ _ _ _ dst (by decide) (by decide) (by decide))
theorem std (dst : MemOp) : Statement (.std dst) :=
  of_size rfl (encMem_size _ _ _ _ dst (by decide) (by decide) (by decide))
theorem sts (dst : MemOp) : Statement (.sts dst) :=
  of_size rfl (encMem_size _ _ _ _ dst (by decide) (by decide) (by decide))
theorem stx (dst : MemOp) : Statement (.stx dst) :=
  of_size rfl (encMem_size _ _ _ _ dst (by decide) (by decide) (by decide))
theorem sty (dst : MemOp) : Statement (.sty dst) :=
  of_size rfl (encMem_size _ _ _ _ dst (by decide) (by decide) (by decide))
theorem tap : Statement .tap := of_size rfl (by decide)
theorem tpa : Statement .tpa := of_size rfl (by decide)
theorem tab : Statement .tab := of_size rfl (by decide)
theorem tba : Statement .tba := of_size rfl (by decide)
theorem tsx : Statement .tsx := of_size rfl (by decide)
theorem tsy : Statement .tsy := of_size rfl (by decide)
theorem txs : Statement .txs := of_size rfl (by decide)
theorem tys : Statement .tys := of_size rfl (by decide)
theorem xgdx : Statement .xgdx := of_size rfl (by decide)
theorem xgdy : Statement .xgdy := of_size rfl (by decide)
theorem psha : Statement .psha := of_size rfl (by decide)
theorem pshb : Statement .pshb := of_size rfl (by decide)
theorem pshx : Statement .pshx := of_size rfl (by decide)
theorem pshy : Statement .pshy := of_size rfl (by decide)
theorem pula : Statement .pula := of_size rfl (by decide)
theorem pulb : Statement .pulb := of_size rfl (by decide)
theorem pulx : Statement .pulx := of_size rfl (by decide)
theorem puly : Statement .puly := of_size rfl (by decide)
theorem clr (dst : MemOp) : Statement (.clr dst) := encRmw_size _ dst
theorem clra : Statement .clra := of_size rfl (by decide)
theorem clrb : Statement .clrb := of_size rfl (by decide)
theorem aba : Statement .aba := of_size rfl (by decide)
theorem abx : Statement .abx := of_size rfl (by decide)
theorem aby : Statement .aby := of_size rfl (by decide)
theorem adca (src : Src8) : Statement (.adca src) := of_size rfl (encSrc8_size _ src)
theorem adcb (src : Src8) : Statement (.adcb src) := of_size rfl (encSrc8_size _ src)
theorem adda (src : Src8) : Statement (.adda src) := of_size rfl (encSrc8_size _ src)
theorem addb (src : Src8) : Statement (.addb src) := of_size rfl (encSrc8_size _ src)
theorem addd (src : Src16) : Statement (.addd src) :=
  of_size rfl (encSrc16_size _ _ _ _ src (by decide) (by decide) (by decide))
theorem sba : Statement .sba := of_size rfl (by decide)
theorem sbca (src : Src8) : Statement (.sbca src) := of_size rfl (encSrc8_size _ src)
theorem sbcb (src : Src8) : Statement (.sbcb src) := of_size rfl (encSrc8_size _ src)
theorem suba (src : Src8) : Statement (.suba src) := of_size rfl (encSrc8_size _ src)
theorem subb (src : Src8) : Statement (.subb src) := of_size rfl (encSrc8_size _ src)
theorem subd (src : Src16) : Statement (.subd src) :=
  of_size rfl (encSrc16_size _ _ _ _ src (by decide) (by decide) (by decide))
theorem cba : Statement .cba := of_size rfl (by decide)
theorem cmpa (src : Src8) : Statement (.cmpa src) := of_size rfl (encSrc8_size _ src)
theorem cmpb (src : Src8) : Statement (.cmpb src) := of_size rfl (encSrc8_size _ src)
theorem cpd (src : Src16) : Statement (.cpd src) :=
  of_size rfl (encSrc16_size _ _ _ _ src (by decide) (by decide) (by decide))
theorem cpx (src : Src16) : Statement (.cpx src) :=
  of_size rfl (encSrc16_size _ _ _ _ src (by decide) (by decide) (by decide))
theorem cpy (src : Src16) : Statement (.cpy src) :=
  of_size rfl (encSrc16_size _ _ _ _ src (by decide) (by decide) (by decide))
theorem daa : Statement .daa := of_size rfl (by decide)
theorem dec (dst : MemOp) : Statement (.dec dst) := encRmw_size _ dst
theorem deca : Statement .deca := of_size rfl (by decide)
theorem decb : Statement .decb := of_size rfl (by decide)
theorem des : Statement .des := of_size rfl (by decide)
theorem dex : Statement .dex := of_size rfl (by decide)
theorem dey : Statement .dey := of_size rfl (by decide)
theorem inc (dst : MemOp) : Statement (.inc dst) := encRmw_size _ dst
theorem inca : Statement .inca := of_size rfl (by decide)
theorem incb : Statement .incb := of_size rfl (by decide)
theorem ins : Statement .ins := of_size rfl (by decide)
theorem inx : Statement .inx := of_size rfl (by decide)
theorem iny : Statement .iny := of_size rfl (by decide)
theorem neg (dst : MemOp) : Statement (.neg dst) := encRmw_size _ dst
theorem nega : Statement .nega := of_size rfl (by decide)
theorem negb : Statement .negb := of_size rfl (by decide)
theorem tst (dst : MemOp) : Statement (.tst dst) := encRmw_size _ dst
theorem tsta : Statement .tsta := of_size rfl (by decide)
theorem tstb : Statement .tstb := of_size rfl (by decide)
theorem mul : Statement .mul := of_size rfl (by decide)
theorem idiv : Statement .idiv := of_size rfl (by decide)
theorem fdiv : Statement .fdiv := of_size rfl (by decide)
theorem anda (src : Src8) : Statement (.anda src) := of_size rfl (encSrc8_size _ src)
theorem andb (src : Src8) : Statement (.andb src) := of_size rfl (encSrc8_size _ src)
theorem bita (src : Src8) : Statement (.bita src) := of_size rfl (encSrc8_size _ src)
theorem bitb (src : Src8) : Statement (.bitb src) := of_size rfl (encSrc8_size _ src)
theorem eora (src : Src8) : Statement (.eora src) := of_size rfl (encSrc8_size _ src)
theorem eorb (src : Src8) : Statement (.eorb src) := of_size rfl (encSrc8_size _ src)
theorem oraa (src : Src8) : Statement (.oraa src) := of_size rfl (encSrc8_size _ src)
theorem orab (src : Src8) : Statement (.orab src) := of_size rfl (encSrc8_size _ src)
theorem com (dst : MemOp) : Statement (.com dst) := encRmw_size _ dst
theorem coma : Statement .coma := of_size rfl (by decide)
theorem comb : Statement .comb := of_size rfl (by decide)
theorem bset (dst : MemOp) (mm : Byte) : Statement (.bset dst mm) := encBit_size _ _ _ dst (by simp)
theorem bclr (dst : MemOp) (mm : Byte) : Statement (.bclr dst mm) := encBit_size _ _ _ dst (by simp)
theorem asl (dst : MemOp) : Statement (.asl dst) := encRmw_size _ dst
theorem asla : Statement .asla := of_size rfl (by decide)
theorem aslb : Statement .aslb := of_size rfl (by decide)
theorem asld : Statement .asld := of_size rfl (by decide)
theorem asr (dst : MemOp) : Statement (.asr dst) := encRmw_size _ dst
theorem asra : Statement .asra := of_size rfl (by decide)
theorem asrb : Statement .asrb := of_size rfl (by decide)
theorem lsr (dst : MemOp) : Statement (.lsr dst) := encRmw_size _ dst
theorem lsra : Statement .lsra := of_size rfl (by decide)
theorem lsrb : Statement .lsrb := of_size rfl (by decide)
theorem lsrd : Statement .lsrd := of_size rfl (by decide)
theorem rol (dst : MemOp) : Statement (.rol dst) := encRmw_size _ dst
theorem rola : Statement .rola := of_size rfl (by decide)
theorem rolb : Statement .rolb := of_size rfl (by decide)
theorem ror (dst : MemOp) : Statement (.ror dst) := encRmw_size _ dst
theorem rora : Statement .rora := of_size rfl (by decide)
theorem rorb : Statement .rorb := of_size rfl (by decide)
theorem bra (rr : Byte) : Statement (.bra rr) := of_size rfl (by simp [encode])
theorem brn (rr : Byte) : Statement (.brn rr) := of_size rfl (by simp [encode])
theorem bcc (rr : Byte) : Statement (.bcc rr) := of_size rfl (by simp [encode])
theorem bcs (rr : Byte) : Statement (.bcs rr) := of_size rfl (by simp [encode])
theorem beq (rr : Byte) : Statement (.beq rr) := of_size rfl (by simp [encode])
theorem bne (rr : Byte) : Statement (.bne rr) := of_size rfl (by simp [encode])
theorem bmi (rr : Byte) : Statement (.bmi rr) := of_size rfl (by simp [encode])
theorem bpl (rr : Byte) : Statement (.bpl rr) := of_size rfl (by simp [encode])
theorem bvs (rr : Byte) : Statement (.bvs rr) := of_size rfl (by simp [encode])
theorem bvc (rr : Byte) : Statement (.bvc rr) := of_size rfl (by simp [encode])
theorem bge (rr : Byte) : Statement (.bge rr) := of_size rfl (by simp [encode])
theorem bgt (rr : Byte) : Statement (.bgt rr) := of_size rfl (by simp [encode])
theorem ble (rr : Byte) : Statement (.ble rr) := of_size rfl (by simp [encode])
theorem blt (rr : Byte) : Statement (.blt rr) := of_size rfl (by simp [encode])
theorem bhi (rr : Byte) : Statement (.bhi rr) := of_size rfl (by simp [encode])
theorem bls (rr : Byte) : Statement (.bls rr) := of_size rfl (by simp [encode])
theorem brset (src : MemOp) (mm rr : Byte) : Statement (.brset src mm rr) :=
  encBit_size _ _ _ src (by simp)
theorem brclr (src : MemOp) (mm rr : Byte) : Statement (.brclr src mm rr) :=
  encBit_size _ _ _ src (by simp)
theorem bsr (rr : Byte) : Statement (.bsr rr) := of_size rfl (by simp [encode])
theorem jmp (dst : MemOp) : Statement (.jmp dst) := encRmw_size _ dst
theorem jsr (dst : MemOp) : Statement (.jsr dst) :=
  of_size rfl (encMem_size _ _ _ _ dst (by decide) (by decide) (by decide))
theorem rts : Statement .rts := of_size rfl (by decide)
theorem clc : Statement .clc := of_size rfl (by decide)
theorem cli : Statement .cli := of_size rfl (by decide)
theorem clv : Statement .clv := of_size rfl (by decide)
theorem sec : Statement .sec := of_size rfl (by decide)
theorem sei : Statement .sei := of_size rfl (by decide)
theorem sev : Statement .sev := of_size rfl (by decide)
theorem nop : Statement .nop := of_size rfl (by decide)
theorem rti : Statement .rti := of_size rfl (by decide)
theorem swi : Statement .swi := of_size rfl (by decide)
theorem wai : Statement .wai := of_size rfl (by decide)
theorem stop : Statement .stop := of_size rfl (by decide)
theorem test : Statement .test := of_size rfl (by decide)

end Sys2Proof.Laws.EncodedSize
end

