-- ==== Sys2Proof/Laws/Timer.lean ====
section
/-! SUPPORT.
What the operations of the timer can change, said once for each.
-/

namespace Sys2Proof.Laws

open Sys2Proof.Machine

/-- A pin action changes the compare levels only. -/
theorem ocAction_changes (x : Nat) (t : Timer) : t.ocAction x = { t with ocOut := (t.ocAction x).ocOut } := by
  unfold Timer.ocAction; simp only; split <;> rfl

/-- A compare changes TFLG1 and the compare levels only. -/
theorem ocMatch_changes (x : Nat) (reg : Word) (flag : Byte) (t : Timer) :
    ∃ f o, t.ocMatch x reg flag = { t with tflg1 := f, ocOut := o } := by
  unfold Timer.ocMatch
  split
  · exact ⟨_, _, ocAction_changes x (t.flag1 flag)⟩
  · exact ⟨t.tflg1, t.ocOut, rfl⟩

/-- All compares together change TFLG1 and the compare levels only. -/
theorem compares_changes (t : Timer) : ∃ f o, t.compares = { t with tflg1 := f, ocOut := o } := by
  have step : ∀ (x : Nat) (reg : Word) (flag : Byte) (u : Timer),
      (∃ f o, u = { t with tflg1 := f, ocOut := o }) →
        ∃ f o, u.ocMatch x reg flag = { t with tflg1 := f, ocOut := o } := by
    rintro x reg flag _ ⟨_, _, rfl⟩
    obtain ⟨_, _, h⟩ := ocMatch_changes x reg flag { t with tflg1 := _, ocOut := _ }
    exact ⟨_, _, h⟩
  have h : ∀ u : Timer, (∃ f o, u = { t with tflg1 := f, ocOut := o }) →
      ∃ f o, (if u.tcnt = u.toc1 then (u.flag1 0x80).oc1Action else u) =
        { t with tflg1 := f, ocOut := o } := by
    rintro _ ⟨f, o, rfl⟩
    split
    · exact ⟨_, _, rfl⟩
    · exact ⟨f, o, rfl⟩
  unfold Timer.compares
  simp only
  apply h
  split
  · exact step _ _ _ _ (step _ _ _ _ (step _ _ _ _ (step _ _ _ _ ⟨t.tflg1, t.ocOut, rfl⟩)))
  · exact step _ _ _ _ (step _ _ _ _ (step _ _ _ _ ⟨t.tflg1, t.ocOut, rfl⟩))

/-- A count changes TCNT, the phase, the flags and the compare levels only. -/
theorem increment_changes (t : Timer) : ∃ f g o,
    t.increment = { t with phase := 0, tcnt := t.tcnt + 1, tflg1 := f, tflg2 := g, ocOut := o } := by
  unfold Timer.increment
  simp only
  split
  · obtain ⟨_, _, h⟩ := compares_changes (({ t with phase := 0, tcnt := t.tcnt + 1 } : Timer).flag2 0x80)
    exact ⟨_, _, _, h⟩
  · obtain ⟨_, _, h⟩ := compares_changes { t with phase := 0, tcnt := t.tcnt + 1 }
    exact ⟨_, _, _, h⟩

/-- The real-time interrupt changes TFLG2 only. -/
theorem rti_changes (n : Nat) (t : Timer) : t.rti n = { t with tflg2 := (t.rti n).tflg2 } := by
  unfold Timer.rti; split <;> rfl

/-- The gated pulse accumulator changes PACNT, its phase and TFLG2 only. -/
theorem paGate_changes (pai : Bool) (t : Timer) :
    t.paGate pai = { t with tflg2 := (t.paGate pai).tflg2, paPhase := (t.paGate pai).paPhase,
                            pacnt := (t.paGate pai).pacnt } := by
  unfold Timer.paGate
  split
  · split
    · rfl
    · unfold Timer.paCount; simp only; split <;> rfl
  · rfl

/-- An edge of PAI changes PACNT and TFLG2 only. -/
theorem paEdge_changes (old new : Bool) (t : Timer) :
    t.paEdge old new = { t with tflg2 := (t.paEdge old new).tflg2, pacnt := (t.paEdge old new).pacnt } := by
  unfold Timer.paEdge Timer.paCount Timer.flag2
  split <;> simp only <;> (repeat' split) <;> rfl

/-- What the edges of port A do, all four captures at once (60 R473). -/
theorem captures_eq (old new : Byte) (t : Timer) (e1 e2 e3 e4 : Bool)
    (h1 : e1 = edgeSelected (t.tctl2.toNat / 16) (bit old 2) (bit new 2))
    (h2 : e2 = edgeSelected (t.tctl2.toNat / 4) (bit old 1) (bit new 1))
    (h3 : e3 = edgeSelected t.tctl2.toNat (bit old 0) (bit new 0))
    (h4 : e4 = (bit t.pactl 2 && edgeSelected (t.tctl2.toNat / 64) (bit old 3) (bit new 3))) :
    t.captures old new = { t with
      tic1 := if e1 then t.tcnt else t.tic1
      tic2 := if e2 then t.tcnt else t.tic2
      tic3 := if e3 then t.tcnt else t.tic3
      ti4o5 := if e4 then t.tcnt else t.ti4o5
      tflg1 := t.tflg1 ||| (if e1 then 4 else 0) ||| (if e2 then 2 else 0) ||| (if e3 then 1 else 0) |||
        (if e4 then 8 else 0) } := by
  unfold Timer.captures Timer.oc5
  simp only [Bool.not_not]
  rw [← h1]
  cases e1 <;> cases e2 <;> cases e3 <;> cases e4 <;>
    simp only [Bool.false_eq_true, if_false, if_true, Timer.flag1, ← h2, ← h3, ← h4] <;> simp

end Sys2Proof.Laws
end

