-- ==== Sys2Proof/Laws/Writes.lean ====
section
/-! SUPPORT.
What a write can do to the memory arrays and, outside the register block, to the rest of the state.
-/

namespace Sys2Proof.Laws

open Sys2Proof.Machine

/-- Only PPROG, of all registers, reaches a memory array. -/
theorem writeReg_mem {off : Nat} {v : Byte} {s : State} (h : off ≠ 0x3B) :
    (writeReg off v s).mem = s.mem := by
  unfold writeReg
  split
  · rfl
  · split
    · rfl
    · unfold writeControl
      split <;> first | rfl | contradiction | skip
      · unfold writeCoprst; split
        · rfl
        · split <;> rfl
      · unfold writeConfig latchWrite
        simp only
        split <;> split <;> rfl

/-- PPROG reaches only the EEPROM. -/
theorem writePprog_get {r : Region} (hr : r ≠ .eeprom) (v : Byte) (s : State) (off : Nat) :
    (writePprog v s).mem.get r off = s.mem.get r off := by
  have key : ∀ g d, (eeCommit g d s).mem.get r off = s.mem.get r off := by
    intro g d
    have e : ∀ p t, (eraseWhere p t).mem.get r off = t.mem.get r off := by
      intro p t
      simp [eraseWhere, get_clearWhere]
      intro h; exact absurd h hr
    have e2 : ∀ v t, (setConfigCells v t).mem.get r off = t.mem.get r off := by
      intro v t; rfl
    unfold eeCommit
    simp only
    split
    · split
      · rfl
      split
      · unfold programByte Memory.put
        simp only
        split
        · rfl
        · split <;> cases r <;> first | rfl | exact absurd rfl hr
      · split
        · exact e _ _
        · split <;> exact e _ _
    · split
      · rfl
      split
      · exact e2 _ _
      · split
        · rfl
        · rw [e2, e]
  unfold writePprog
  simp only
  split
  · split
    · exact key _ _
    · rfl
  · rfl

/-- A write changes the cell its address selects; through PPROG it may change the EEPROM. -/
theorem writeByte_cells (a : Word) (v : Byte) (s : State) : cellsSame s (writeByte a v s)
    (· = resolve s a) := by
  intro r off h1 h2
  unfold writeByte
  split
  · rename_i o ho
    by_cases h3 : o = 0x3B
    · subst h3
      have hr : r ≠ .eeprom := by intro h; exact h2 h ho.symm
      exact writePprog_get hr v s off
    · rw [writeReg_mem h3]
  · rename_i o ho
    simp only [writeArray, busCycle_mem]
    by_cases hs : o < 65536
    · rw [get_put _ _ _ _ _ _ hs]
      split
      · rename_i h; rw [h.1, h.2, ho] at h1; simp at h1
      · rfl
    · unfold Memory.put; simp [Region.size, Nat.le_of_not_lt hs]
  · rename_i q o hq ho
    cases q
    · simp only [writeArray]
      rw [get_put _ _ _ _ _ _ (resolve_ram_lt ho)]
      split
      · rename_i h; rw [h.1, h.2, ho] at h1; simp at h1
      · rfl
    · simp [writeArray]
    · simp [writeArray]
    · simp at hq
  · simp

/-- A write outside the register block leaves the map, PPROG and every unit alone. -/
theorem writeByte_mem_frame (a : Word) (v : Byte) (s : State) (h : isReg s a = false) :
    (writeByte a v s).sys = s.sys ∧ (writeByte a v s).ee.pprog = s.ee.pprog ∧
      devicesSame s (writeByte a v s) ∧ serialSame s (writeByte a v s) := by
  unfold isReg at h
  unfold writeByte
  split
  · simp_all
  · simp [writeArray, devicesSame, serialSame]
  · rename_i r o _ _
    cases r <;> simp only [writeArray]
    · simp [devicesSame, serialSame]
    · unfold latchWrite; split <;> simp [devicesSame, serialSame]
    · simp [devicesSame, serialSame]
    · simp [devicesSame, serialSame]
  · simp [devicesSame, serialSame]

theorem cellsSame_trans {s t u : State} {V W : Target → Prop} (h : cellsSame s t V)
    (k : cellsSame t u W) : cellsSame s u (fun a => V a ∨ W a) := by
  intro r off h1 h2
  simp only [not_or] at h1 h2
  rw [k r off h1.2 (fun e => (h2 e).2), h r off h1.1 (fun e => (h2 e).1)]

/-! A write neither reads nor writes SP: it can be moved past a change of SP. -/

theorem busCycle_setSp (a : Word) (w : Word) (s : State) :
    busCycle a { s with sp := w } = { busCycle a s with sp := w } := by
  unfold busCycle
  split <;> simp_all [State.mda]; rfl

theorem eeCommit_setSp (g : EeTarget) (v : Byte) (w : Word) (s : State) :
    eeCommit g v { s with sp := w } = { eeCommit g v s with sp := w } := by
  unfold eeCommit
  cases g with
  | array off =>
    simp only
    split
    · rfl
    split
    · rfl
    · split
      · rfl
      · split <;> rfl
  | config =>
    simp only
    split
    · rfl
    split
    · rfl
    · split <;> rfl

theorem writePprog_setSp (v : Byte) (w : Word) (s : State) :
    writePprog v { s with sp := w } = { writePprog v s with sp := w } := by
  unfold writePprog
  simp only
  split
  · split
    · rw [eeCommit_setSp]
    · rfl
  · rfl

theorem latchWrite_setSp (g : EeTarget) (v : Byte) (w : Word) (s : State) :
    latchWrite g v { s with sp := w } = { latchWrite g v s with sp := w } := by
  unfold latchWrite
  have : State.eelat { s with sp := w } = s.eelat := rfl
  rw [this]; split <;> rfl

theorem writeReg_setSp (off : Nat) (v : Byte) (w : Word) (s : State) :
    writeReg off v { s with sp := w } = { writeReg off v s with sp := w } := by
  unfold writeReg
  simp only
  split
  · rfl
  split
  · rfl
  unfold writeControl
  split <;> try rfl
  · unfold writeCoprst; simp only; split
    · rfl
    · split <;> rfl
  · exact writePprog_setSp v w s
  · unfold writeConfig; simp only; rw [latchWrite_setSp]
    have : State.smod { latchWrite .config v s with sp := w } = (latchWrite .config v s).smod := rfl
    rw [this]
    split <;> rfl

/-- A byte write and a change of SP commute. -/
theorem writeByte_setSp (a : Word) (v : Byte) (w : Word) (s : State) :
    writeByte a v { s with sp := w } = { writeByte a v s with sp := w } := by
  unfold writeByte
  have : resolve { s with sp := w } a = resolve s a := rfl
  rw [this]
  split
  · exact writeReg_setSp _ v w s
  · rw [busCycle_setSp]; rfl
  · rename_i r off _ _
    cases r
    · rfl
    · exact latchWrite_setSp _ v w s
    · rfl
    · rfl
  · exact busCycle_setSp a w s

end Sys2Proof.Laws
end

