-- ==== Sys2Proof/Tests/Slice0.lean ====
section
/-! SUPPORT.
Tests: ill-formed terms, the words of every opcode-table row, one step of each instruction on the vectors
of spec/95_test_vectors, and, for each statement with hypotheses, states and operands that meet them.
-/

-- Each kernel evaluation below waits for the one before it: one at a time needs one thread.
set_option Elab.async false

namespace Sys2Proof.Tests

open Sys2Proof.Machine

/-! ### Helpers -/

/-- After reset with no cycle owed: the default state of spec/95. -/
def base : State := { State.reset with owed := 0, sp := 0x03FF, pc := 0x0100, ccr := Ccr.ofByte 0xD0 }

/-- The state with bytes stored from outside. -/
def pokes (l : List (Word × Byte)) (s : State) : State := l.foldl (fun s x => placeBytes x.1 [x.2] s) s

/-- The byte held at an address of memory. -/
def cell (s : State) (a : Word) : Byte :=
  match resolve s a with
  | .mem r off => (s.mem.get r off).getD 0xEE
  | _ => 0xEE

/-- One step gives a next state with the property. -/
def runs (s : State) (p : State → Bool) : Bool :=
  match step s with
  | .next t => p t
  | _ => false

/-- The instruction gives a next state with the property. -/
def gives (i : Instr) (s : State) (p : State → Bool) : Bool :=
  match exec i s with
  | .next t => p t
  | _ => false

/-- Bytes, the instruction they decode to, and its cycles; the word they make in the numbering of 30 R191
decodes to the same, and the instruction encodes to the bytes. -/
def decodesAll (rows : List (List Byte × Instr × Nat)) : Bool :=
  rows.all fun (bytes, i, n) =>
    decide (decode bytes = .ok (i, [])) && decide (encode i = bytes) && decide (cycles i = n) &&
      decide (decodeTableWord (8 * bytes.length)
        (bytes.foldl (fun w v => w * 256 + v.toNat) 0) = some i)

theorem next_of_gives {i : Instr} {s : State} {p : State → Bool} (h : gives i s p = true) :
    ∃ t, exec i s = .next t ∧ p t = true := by
  unfold gives at h
  split at h
  · exact ⟨_, by assumption, h⟩
  · cases h

theorem next_of_runs {s : State} {p : State → Bool} (h : runs s p = true) :
    ∃ t, step s = .next t ∧ p t = true := by
  unfold runs at h
  split at h
  · exact ⟨_, by assumption, h⟩
  · cases h

theorem frame_all {sp : Word} {p : Word → Bool}
    (h : ((List.range 9).all fun k => p (sp - BitVec.ofNat 16 k)) = true) (a : Word)
    (ha : inFrame sp a) : p a = true := by
  obtain ⟨k, hk, rfl⟩ := ha
  exact List.all_eq_true.mp h k (List.mem_range.mpr hk)

theorem frame_not {sp v : Word}
    (h : ((List.range 9).all fun k => v != sp - BitVec.ofNat 16 k) = true) : ¬ inFrame sp v := by
  rintro ⟨k, hk, he⟩
  have := List.all_eq_true.mp h k (List.mem_range.mpr hk)
  simp [← he] at this

/-! ### Ill-formed terms are refused -/

theorem test_wf_refuses_dir : ([.clr (.dir 0), .dec (.dir 0), .inc (.dir 0), .neg (.dir 0),
    .tst (.dir 0), .com (.dir 0), .asl (.dir 0), .asr (.dir 0), .lsr (.dir 0), .rol (.dir 0),
    .ror (.dir 0), .jmp (.dir 0)] : List Instr).all (fun i => !i.wf) = true := by decide

theorem test_wf_refuses_ext : ([.bset (.ext 0) 1, .bclr (.ext 0) 1, .brset (.ext 0) 1 0,
    .brclr (.ext 0) 1 0] : List Instr).all (fun i => !i.wf) = true := by decide

theorem test_wf_accepts : ([.clr (.ext 0), .jmp (.indY 0), .bset (.dir 0) 1, .brclr (.indX 0) 1 0,
    .ldaa (.mem (.dir 0)), .nop] : List Instr).all Instr.wf = true := by decide

/-! ### Decoding: every row of the opcode table, with operand bytes $91, $C3, $E7 (30 R174, R189) -/

theorem test_decode_inh_page1_1 : decodesAll [
    ([0x00], .test, 14), ([0x01], .nop, 2), ([0x02], .idiv, 41), ([0x03], .fdiv, 41),
    ([0x04], .lsrd, 3), ([0x05], .asld, 3), ([0x06], .tap, 2), ([0x07], .tpa, 2),
    ([0x08], .inx, 3), ([0x09], .dex, 3), ([0x0A], .clv, 2), ([0x0B], .sev, 2),
    ([0x0C], .clc, 2), ([0x0D], .sec, 2), ([0x0E], .cli, 2), ([0x0F], .sei, 2),
    ([0x10], .sba, 2), ([0x11], .cba, 2), ([0x16], .tab, 2), ([0x17], .tba, 2),
    ([0x19], .daa, 2), ([0x1B], .aba, 2), ([0x30], .tsx, 3), ([0x31], .ins, 3)] = true := by
  decide +kernel

theorem test_decode_inh_page1_2 : decodesAll [
    ([0x32], .pula, 4), ([0x33], .pulb, 4), ([0x34], .des, 3), ([0x35], .txs, 3),
    ([0x36], .psha, 3), ([0x37], .pshb, 3), ([0x38], .pulx, 5), ([0x39], .rts, 5),
    ([0x3A], .abx, 3), ([0x3B], .rti, 12), ([0x3C], .pshx, 4), ([0x3D], .mul, 10),
    ([0x3E], .wai, 12), ([0x3F], .swi, 14), ([0x40], .nega, 2), ([0x43], .coma, 2),
    ([0x44], .lsra, 2), ([0x46], .rora, 2), ([0x47], .asra, 2), ([0x48], .asla, 2),
    ([0x49], .rola, 2), ([0x4A], .deca, 2), ([0x4C], .inca, 2), ([0x4D], .tsta, 2)] = true := by
  decide +kernel

theorem test_decode_inh_page1_3 : decodesAll [
    ([0x4F], .clra, 2), ([0x50], .negb, 2), ([0x53], .comb, 2), ([0x54], .lsrb, 2),
    ([0x56], .rorb, 2), ([0x57], .asrb, 2), ([0x58], .aslb, 2), ([0x59], .rolb, 2),
    ([0x5A], .decb, 2), ([0x5C], .incb, 2), ([0x5D], .tstb, 2), ([0x5F], .clrb, 2),
    ([0x8F], .xgdx, 3), ([0xCF], .stop, 2)] = true := by
  decide +kernel

theorem test_decode_dir_msk_rel_page1 : decodesAll [
    ([0x12, 0x91, 0xC3, 0xE7], .brset (.dir 0x91) 0xC3 0xE7, 6),
    ([0x13, 0x91, 0xC3, 0xE7], .brclr (.dir 0x91) 0xC3 0xE7, 6)] = true := by
  decide +kernel

theorem test_decode_dir_msk_page1 : decodesAll [
    ([0x14, 0x91, 0xC3], .bset (.dir 0x91) 0xC3, 6),
    ([0x15, 0x91, 0xC3], .bclr (.dir 0x91) 0xC3, 6)] = true := by
  decide +kernel

theorem test_decode_indx_msk_page1 : decodesAll [
    ([0x1C, 0x91, 0xC3], .bset (.indX 0x91) 0xC3, 7),
    ([0x1D, 0x91, 0xC3], .bclr (.indX 0x91) 0xC3, 7)] = true := by
  decide +kernel

theorem test_decode_indx_msk_rel_page1 : decodesAll [
    ([0x1E, 0x91, 0xC3, 0xE7], .brset (.indX 0x91) 0xC3 0xE7, 7),
    ([0x1F, 0x91, 0xC3, 0xE7], .brclr (.indX 0x91) 0xC3 0xE7, 7)] = true := by
  decide +kernel

theorem test_decode_rel_page1 : decodesAll [
    ([0x20, 0x91], .bra 0x91, 3), ([0x21, 0x91], .brn 0x91, 3), ([0x22, 0x91], .bhi 0x91, 3),
    ([0x23, 0x91], .bls 0x91, 3), ([0x24, 0x91], .bcc 0x91, 3), ([0x25, 0x91], .bcs 0x91, 3),
    ([0x26, 0x91], .bne 0x91, 3), ([0x27, 0x91], .beq 0x91, 3), ([0x28, 0x91], .bvc 0x91, 3),
    ([0x29, 0x91], .bvs 0x91, 3), ([0x2A, 0x91], .bpl 0x91, 3), ([0x2B, 0x91], .bmi 0x91, 3),
    ([0x2C, 0x91], .bge 0x91, 3), ([0x2D, 0x91], .blt 0x91, 3), ([0x2E, 0x91], .bgt 0x91, 3),
    ([0x2F, 0x91], .ble 0x91, 3), ([0x8D, 0x91], .bsr 0x91, 6)] = true := by
  decide +kernel

theorem test_decode_indx_page1_1 : decodesAll [
    ([0x60, 0x91], .neg (.indX 0x91), 6), ([0x63, 0x91], .com (.indX 0x91), 6),
    ([0x64, 0x91], .lsr (.indX 0x91), 6), ([0x66, 0x91], .ror (.indX 0x91), 6),
    ([0x67, 0x91], .asr (.indX 0x91), 6), ([0x68, 0x91], .asl (.indX 0x91), 6),
    ([0x69, 0x91], .rol (.indX 0x91), 6), ([0x6A, 0x91], .dec (.indX 0x91), 6),
    ([0x6C, 0x91], .inc (.indX 0x91), 6), ([0x6D, 0x91], .tst (.indX 0x91), 6),
    ([0x6E, 0x91], .jmp (.indX 0x91), 3), ([0x6F, 0x91], .clr (.indX 0x91), 6),
    ([0xA0, 0x91], .suba (.mem (.indX 0x91)), 4), ([0xA1, 0x91], .cmpa (.mem (.indX 0x91)), 4),
    ([0xA2, 0x91], .sbca (.mem (.indX 0x91)), 4), ([0xA3, 0x91], .subd (.mem (.indX 0x91)), 6),
    ([0xA4, 0x91], .anda (.mem (.indX 0x91)), 4), ([0xA5, 0x91], .bita (.mem (.indX 0x91)), 4),
    ([0xA6, 0x91], .ldaa (.mem (.indX 0x91)), 4), ([0xA7, 0x91], .staa (.indX 0x91), 4),
    ([0xA8, 0x91], .eora (.mem (.indX 0x91)), 4), ([0xA9, 0x91], .adca (.mem (.indX 0x91)), 4),
    ([0xAA, 0x91], .oraa (.mem (.indX 0x91)), 4),
    ([0xAB, 0x91], .adda (.mem (.indX 0x91)), 4)] = true := by
  decide +kernel

theorem test_decode_indx_page1_2 : decodesAll [
    ([0xAC, 0x91], .cpx (.mem (.indX 0x91)), 6), ([0xAD, 0x91], .jsr (.indX 0x91), 6),
    ([0xAE, 0x91], .lds (.mem (.indX 0x91)), 5), ([0xAF, 0x91], .sts (.indX 0x91), 5),
    ([0xE0, 0x91], .subb (.mem (.indX 0x91)), 4), ([0xE1, 0x91], .cmpb (.mem (.indX 0x91)), 4),
    ([0xE2, 0x91], .sbcb (.mem (.indX 0x91)), 4), ([0xE3, 0x91], .addd (.mem (.indX 0x91)), 6),
    ([0xE4, 0x91], .andb (.mem (.indX 0x91)), 4), ([0xE5, 0x91], .bitb (.mem (.indX 0x91)), 4),
    ([0xE6, 0x91], .ldab (.mem (.indX 0x91)), 4), ([0xE7, 0x91], .stab (.indX 0x91), 4),
    ([0xE8, 0x91], .eorb (.mem (.indX 0x91)), 4), ([0xE9, 0x91], .adcb (.mem (.indX 0x91)), 4),
    ([0xEA, 0x91], .orab (.mem (.indX 0x91)), 4), ([0xEB, 0x91], .addb (.mem (.indX 0x91)), 4),
    ([0xEC, 0x91], .ldd (.mem (.indX 0x91)), 5), ([0xED, 0x91], .std (.indX 0x91), 5),
    ([0xEE, 0x91], .ldx (.mem (.indX 0x91)), 5),
    ([0xEF, 0x91], .stx (.indX 0x91), 5)] = true := by
  decide +kernel

theorem test_decode_ext_page1_1 : decodesAll [
    ([0x70, 0x91, 0xC3], .neg (.ext 0x91C3), 6), ([0x73, 0x91, 0xC3], .com (.ext 0x91C3), 6),
    ([0x74, 0x91, 0xC3], .lsr (.ext 0x91C3), 6), ([0x76, 0x91, 0xC3], .ror (.ext 0x91C3), 6),
    ([0x77, 0x91, 0xC3], .asr (.ext 0x91C3), 6), ([0x78, 0x91, 0xC3], .asl (.ext 0x91C3), 6),
    ([0x79, 0x91, 0xC3], .rol (.ext 0x91C3), 6), ([0x7A, 0x91, 0xC3], .dec (.ext 0x91C3), 6),
    ([0x7C, 0x91, 0xC3], .inc (.ext 0x91C3), 6), ([0x7D, 0x91, 0xC3], .tst (.ext 0x91C3), 6),
    ([0x7E, 0x91, 0xC3], .jmp (.ext 0x91C3), 3), ([0x7F, 0x91, 0xC3], .clr (.ext 0x91C3), 6),
    ([0xB0, 0x91, 0xC3], .suba (.mem (.ext 0x91C3)), 4),
    ([0xB1, 0x91, 0xC3], .cmpa (.mem (.ext 0x91C3)), 4),
    ([0xB2, 0x91, 0xC3], .sbca (.mem (.ext 0x91C3)), 4),
    ([0xB3, 0x91, 0xC3], .subd (.mem (.ext 0x91C3)), 6),
    ([0xB4, 0x91, 0xC3], .anda (.mem (.ext 0x91C3)), 4),
    ([0xB5, 0x91, 0xC3], .bita (.mem (.ext 0x91C3)), 4),
    ([0xB6, 0x91, 0xC3], .ldaa (.mem (.ext 0x91C3)), 4),
    ([0xB7, 0x91, 0xC3], .staa (.ext 0x91C3), 4),
    ([0xB8, 0x91, 0xC3], .eora (.mem (.ext 0x91C3)), 4),
    ([0xB9, 0x91, 0xC3], .adca (.mem (.ext 0x91C3)), 4),
    ([0xBA, 0x91, 0xC3], .oraa (.mem (.ext 0x91C3)), 4),
    ([0xBB, 0x91, 0xC3], .adda (.mem (.ext 0x91C3)), 4)] = true := by
  decide +kernel

theorem test_decode_ext_page1_2 : decodesAll [
    ([0xBC, 0x91, 0xC3], .cpx (.mem (.ext 0x91C3)), 6),
    ([0xBD, 0x91, 0xC3], .jsr (.ext 0x91C3), 6),
    ([0xBE, 0x91, 0xC3], .lds (.mem (.ext 0x91C3)), 5),
    ([0xBF, 0x91, 0xC3], .sts (.ext 0x91C3), 5),
    ([0xF0, 0x91, 0xC3], .subb (.mem (.ext 0x91C3)), 4),
    ([0xF1, 0x91, 0xC3], .cmpb (.mem (.ext 0x91C3)), 4),
    ([0xF2, 0x91, 0xC3], .sbcb (.mem (.ext 0x91C3)), 4),
    ([0xF3, 0x91, 0xC3], .addd (.mem (.ext 0x91C3)), 6),
    ([0xF4, 0x91, 0xC3], .andb (.mem (.ext 0x91C3)), 4),
    ([0xF5, 0x91, 0xC3], .bitb (.mem (.ext 0x91C3)), 4),
    ([0xF6, 0x91, 0xC3], .ldab (.mem (.ext 0x91C3)), 4),
    ([0xF7, 0x91, 0xC3], .stab (.ext 0x91C3), 4),
    ([0xF8, 0x91, 0xC3], .eorb (.mem (.ext 0x91C3)), 4),
    ([0xF9, 0x91, 0xC3], .adcb (.mem (.ext 0x91C3)), 4),
    ([0xFA, 0x91, 0xC3], .orab (.mem (.ext 0x91C3)), 4),
    ([0xFB, 0x91, 0xC3], .addb (.mem (.ext 0x91C3)), 4),
    ([0xFC, 0x91, 0xC3], .ldd (.mem (.ext 0x91C3)), 5),
    ([0xFD, 0x91, 0xC3], .std (.ext 0x91C3), 5),
    ([0xFE, 0x91, 0xC3], .ldx (.mem (.ext 0x91C3)), 5),
    ([0xFF, 0x91, 0xC3], .stx (.ext 0x91C3), 5)] = true := by
  decide +kernel

theorem test_decode_imm8_page1 : decodesAll [
    ([0x80, 0x91], .suba (.imm 0x91), 2), ([0x81, 0x91], .cmpa (.imm 0x91), 2),
    ([0x82, 0x91], .sbca (.imm 0x91), 2), ([0x84, 0x91], .anda (.imm 0x91), 2),
    ([0x85, 0x91], .bita (.imm 0x91), 2), ([0x86, 0x91], .ldaa (.imm 0x91), 2),
    ([0x88, 0x91], .eora (.imm 0x91), 2), ([0x89, 0x91], .adca (.imm 0x91), 2),
    ([0x8A, 0x91], .oraa (.imm 0x91), 2), ([0x8B, 0x91], .adda (.imm 0x91), 2),
    ([0xC0, 0x91], .subb (.imm 0x91), 2), ([0xC1, 0x91], .cmpb (.imm 0x91), 2),
    ([0xC2, 0x91], .sbcb (.imm 0x91), 2), ([0xC4, 0x91], .andb (.imm 0x91), 2),
    ([0xC5, 0x91], .bitb (.imm 0x91), 2), ([0xC6, 0x91], .ldab (.imm 0x91), 2),
    ([0xC8, 0x91], .eorb (.imm 0x91), 2), ([0xC9, 0x91], .adcb (.imm 0x91), 2),
    ([0xCA, 0x91], .orab (.imm 0x91), 2), ([0xCB, 0x91], .addb (.imm 0x91), 2)] = true := by
  decide +kernel

theorem test_decode_imm16_page1 : decodesAll [
    ([0x83, 0x91, 0xC3], .subd (.imm 0x91C3), 4), ([0x8C, 0x91, 0xC3], .cpx (.imm 0x91C3), 4),
    ([0x8E, 0x91, 0xC3], .lds (.imm 0x91C3), 3), ([0xC3, 0x91, 0xC3], .addd (.imm 0x91C3), 4),
    ([0xCC, 0x91, 0xC3], .ldd (.imm 0x91C3), 3),
    ([0xCE, 0x91, 0xC3], .ldx (.imm 0x91C3), 3)] = true := by
  decide +kernel

theorem test_decode_dir_page1_1 : decodesAll [
    ([0x90, 0x91], .suba (.mem (.dir 0x91)), 3), ([0x91, 0x91], .cmpa (.mem (.dir 0x91)), 3),
    ([0x92, 0x91], .sbca (.mem (.dir 0x91)), 3), ([0x93, 0x91], .subd (.mem (.dir 0x91)), 5),
    ([0x94, 0x91], .anda (.mem (.dir 0x91)), 3), ([0x95, 0x91], .bita (.mem (.dir 0x91)), 3),
    ([0x96, 0x91], .ldaa (.mem (.dir 0x91)), 3), ([0x97, 0x91], .staa (.dir 0x91), 3),
    ([0x98, 0x91], .eora (.mem (.dir 0x91)), 3), ([0x99, 0x91], .adca (.mem (.dir 0x91)), 3),
    ([0x9A, 0x91], .oraa (.mem (.dir 0x91)), 3), ([0x9B, 0x91], .adda (.mem (.dir 0x91)), 3),
    ([0x9C, 0x91], .cpx (.mem (.dir 0x91)), 5), ([0x9D, 0x91], .jsr (.dir 0x91), 5),
    ([0x9E, 0x91], .lds (.mem (.dir 0x91)), 4), ([0x9F, 0x91], .sts (.dir 0x91), 4),
    ([0xD0, 0x91], .subb (.mem (.dir 0x91)), 3), ([0xD1, 0x91], .cmpb (.mem (.dir 0x91)), 3),
    ([0xD2, 0x91], .sbcb (.mem (.dir 0x91)), 3), ([0xD3, 0x91], .addd (.mem (.dir 0x91)), 5),
    ([0xD4, 0x91], .andb (.mem (.dir 0x91)), 3), ([0xD5, 0x91], .bitb (.mem (.dir 0x91)), 3),
    ([0xD6, 0x91], .ldab (.mem (.dir 0x91)), 3),
    ([0xD7, 0x91], .stab (.dir 0x91), 3)] = true := by
  decide +kernel

theorem test_decode_dir_page1_2 : decodesAll [
    ([0xD8, 0x91], .eorb (.mem (.dir 0x91)), 3), ([0xD9, 0x91], .adcb (.mem (.dir 0x91)), 3),
    ([0xDA, 0x91], .orab (.mem (.dir 0x91)), 3), ([0xDB, 0x91], .addb (.mem (.dir 0x91)), 3),
    ([0xDC, 0x91], .ldd (.mem (.dir 0x91)), 4), ([0xDD, 0x91], .std (.dir 0x91), 4),
    ([0xDE, 0x91], .ldx (.mem (.dir 0x91)), 4), ([0xDF, 0x91], .stx (.dir 0x91), 4)] = true := by
  decide +kernel

theorem test_decode_inh_page2 : decodesAll [
    ([0x18, 0x08], .iny, 4), ([0x18, 0x09], .dey, 4), ([0x18, 0x30], .tsy, 4),
    ([0x18, 0x35], .tys, 4), ([0x18, 0x38], .puly, 6), ([0x18, 0x3A], .aby, 4),
    ([0x18, 0x3C], .pshy, 5), ([0x18, 0x8F], .xgdy, 4)] = true := by
  decide +kernel

theorem test_decode_indy_msk_page2 : decodesAll [
    ([0x18, 0x1C, 0x91, 0xC3], .bset (.indY 0x91) 0xC3, 8),
    ([0x18, 0x1D, 0x91, 0xC3], .bclr (.indY 0x91) 0xC3, 8)] = true := by
  decide +kernel

theorem test_decode_indy_msk_rel_page2 : decodesAll [
    ([0x18, 0x1E, 0x91, 0xC3, 0xE7], .brset (.indY 0x91) 0xC3 0xE7, 8),
    ([0x18, 0x1F, 0x91, 0xC3, 0xE7], .brclr (.indY 0x91) 0xC3 0xE7, 8)] = true := by
  decide +kernel

theorem test_decode_indy_page2_1 : decodesAll [
    ([0x18, 0x60, 0x91], .neg (.indY 0x91), 7), ([0x18, 0x63, 0x91], .com (.indY 0x91), 7),
    ([0x18, 0x64, 0x91], .lsr (.indY 0x91), 7), ([0x18, 0x66, 0x91], .ror (.indY 0x91), 7),
    ([0x18, 0x67, 0x91], .asr (.indY 0x91), 7), ([0x18, 0x68, 0x91], .asl (.indY 0x91), 7),
    ([0x18, 0x69, 0x91], .rol (.indY 0x91), 7), ([0x18, 0x6A, 0x91], .dec (.indY 0x91), 7),
    ([0x18, 0x6C, 0x91], .inc (.indY 0x91), 7), ([0x18, 0x6D, 0x91], .tst (.indY 0x91), 7),
    ([0x18, 0x6E, 0x91], .jmp (.indY 0x91), 4), ([0x18, 0x6F, 0x91], .clr (.indY 0x91), 7),
    ([0x18, 0xA0, 0x91], .suba (.mem (.indY 0x91)), 5),
    ([0x18, 0xA1, 0x91], .cmpa (.mem (.indY 0x91)), 5),
    ([0x18, 0xA2, 0x91], .sbca (.mem (.indY 0x91)), 5),
    ([0x18, 0xA3, 0x91], .subd (.mem (.indY 0x91)), 7),
    ([0x18, 0xA4, 0x91], .anda (.mem (.indY 0x91)), 5),
    ([0x18, 0xA5, 0x91], .bita (.mem (.indY 0x91)), 5),
    ([0x18, 0xA6, 0x91], .ldaa (.mem (.indY 0x91)), 5),
    ([0x18, 0xA7, 0x91], .staa (.indY 0x91), 5),
    ([0x18, 0xA8, 0x91], .eora (.mem (.indY 0x91)), 5),
    ([0x18, 0xA9, 0x91], .adca (.mem (.indY 0x91)), 5),
    ([0x18, 0xAA, 0x91], .oraa (.mem (.indY 0x91)), 5),
    ([0x18, 0xAB, 0x91], .adda (.mem (.indY 0x91)), 5)] = true := by
  decide +kernel

theorem test_decode_indy_page2_2 : decodesAll [
    ([0x18, 0xAC, 0x91], .cpy (.mem (.indY 0x91)), 7),
    ([0x18, 0xAD, 0x91], .jsr (.indY 0x91), 7),
    ([0x18, 0xAE, 0x91], .lds (.mem (.indY 0x91)), 6),
    ([0x18, 0xAF, 0x91], .sts (.indY 0x91), 6),
    ([0x18, 0xE0, 0x91], .subb (.mem (.indY 0x91)), 5),
    ([0x18, 0xE1, 0x91], .cmpb (.mem (.indY 0x91)), 5),
    ([0x18, 0xE2, 0x91], .sbcb (.mem (.indY 0x91)), 5),
    ([0x18, 0xE3, 0x91], .addd (.mem (.indY 0x91)), 7),
    ([0x18, 0xE4, 0x91], .andb (.mem (.indY 0x91)), 5),
    ([0x18, 0xE5, 0x91], .bitb (.mem (.indY 0x91)), 5),
    ([0x18, 0xE6, 0x91], .ldab (.mem (.indY 0x91)), 5),
    ([0x18, 0xE7, 0x91], .stab (.indY 0x91), 5),
    ([0x18, 0xE8, 0x91], .eorb (.mem (.indY 0x91)), 5),
    ([0x18, 0xE9, 0x91], .adcb (.mem (.indY 0x91)), 5),
    ([0x18, 0xEA, 0x91], .orab (.mem (.indY 0x91)), 5),
    ([0x18, 0xEB, 0x91], .addb (.mem (.indY 0x91)), 5),
    ([0x18, 0xEC, 0x91], .ldd (.mem (.indY 0x91)), 6),
    ([0x18, 0xED, 0x91], .std (.indY 0x91), 6),
    ([0x18, 0xEE, 0x91], .ldy (.mem (.indY 0x91)), 6),
    ([0x18, 0xEF, 0x91], .sty (.indY 0x91), 6)] = true := by
  decide +kernel

theorem test_decode_imm16_page2 : decodesAll [
    ([0x18, 0x8C, 0x91, 0xC3], .cpy (.imm 0x91C3), 5),
    ([0x18, 0xCE, 0x91, 0xC3], .ldy (.imm 0x91C3), 4)] = true := by
  decide +kernel

theorem test_decode_dir_page2 : decodesAll [
    ([0x18, 0x9C, 0x91], .cpy (.mem (.dir 0x91)), 6),
    ([0x18, 0xDE, 0x91], .ldy (.mem (.dir 0x91)), 5),
    ([0x18, 0xDF, 0x91], .sty (.dir 0x91), 5)] = true := by
  decide +kernel

theorem test_decode_ext_page2 : decodesAll [
    ([0x18, 0xBC, 0x91, 0xC3], .cpy (.mem (.ext 0x91C3)), 7),
    ([0x18, 0xFE, 0x91, 0xC3], .ldy (.mem (.ext 0x91C3)), 6),
    ([0x18, 0xFF, 0x91, 0xC3], .sty (.ext 0x91C3), 6)] = true := by
  decide +kernel

theorem test_decode_imm16_page3 : decodesAll [
    ([0x1A, 0x83, 0x91, 0xC3], .cpd (.imm 0x91C3), 5)] = true := by
  decide +kernel

theorem test_decode_dir_page3 : decodesAll [
    ([0x1A, 0x93, 0x91], .cpd (.mem (.dir 0x91)), 6)] = true := by
  decide +kernel

theorem test_decode_indx_page3 : decodesAll [
    ([0x1A, 0xA3, 0x91], .cpd (.mem (.indX 0x91)), 7),
    ([0x1A, 0xAC, 0x91], .cpy (.mem (.indX 0x91)), 7),
    ([0x1A, 0xEE, 0x91], .ldy (.mem (.indX 0x91)), 6),
    ([0x1A, 0xEF, 0x91], .sty (.indX 0x91), 6)] = true := by
  decide +kernel

theorem test_decode_ext_page3 : decodesAll [
    ([0x1A, 0xB3, 0x91, 0xC3], .cpd (.mem (.ext 0x91C3)), 7)] = true := by
  decide +kernel

theorem test_decode_indy_page4 : decodesAll [
    ([0xCD, 0xA3, 0x91], .cpd (.mem (.indY 0x91)), 7),
    ([0xCD, 0xAC, 0x91], .cpx (.mem (.indY 0x91)), 7),
    ([0xCD, 0xEE, 0x91], .ldx (.mem (.indY 0x91)), 6),
    ([0xCD, 0xEF, 0x91], .stx (.indY 0x91), 6)] = true := by
  decide +kernel

/-! ### One step of each instruction (spec/95_test_vectors) -/

/-- V40-01: LDAA #$80. -/
theorem test_ldaa_1 : runs (pokes [(0x0100, 0x86), (0x0101, 0x80)] base)
      (fun t => t.a == 0x80 && t.pc == 0x0102 && t.ccr.toByte == 0xD8) = true := by
  decide +kernel

/-- V40-06: LDAA $10,X. -/
theorem test_ldaa_2 : runs (pokes [(0x0100, 0xA6), (0x0101, 0x10), (0x0008, 0x42)]
      { base with ix := 0xFFF8 })
      (fun t => t.a == 0x42 && t.pc == 0x0102 && t.ccr.toByte == 0xD0) = true := by
  decide +kernel

/-- V40-04: LDAB $0234. -/
theorem test_ldab_1 : runs (pokes [(0x0100, 0xF6), (0x0101, 0x02), (0x0102, 0x34), (0x0234, 0xFF)]
      base)
      (fun t => t.b == 0xFF && t.pc == 0x0103 && t.ccr.toByte == 0xD8) = true := by
  decide +kernel

/-- V40-07: LDAB 2,Y. -/
theorem test_ldab_2 : runs (pokes [(0x0100, 0x18), (0x0101, 0xE6), (0x0102, 0x02), (0x0202, 0x01)]
      { base with iy := 0x0200 })
      (fun t => t.b == 0x1 && t.pc == 0x0103 && t.ccr.toByte == 0xD0) = true := by
  decide +kernel

/-- V40-08: LDD #$1234. -/
theorem test_ldd_1 : runs (pokes [(0x0100, 0xCC), (0x0101, 0x12), (0x0102, 0x34)] base)
      (fun t => t.a == 0x12 && t.b == 0x34 && t.pc == 0x0103 &&
        t.ccr.toByte == 0xD0) = true := by
  decide +kernel

/-- V40-09: LDD $30. -/
theorem test_ldd_2 : runs (pokes [(0x0100, 0xDC), (0x0101, 0x30), (0x0030, 0x80), (0x0031, 0x00)]
      { base with a := 0x11, b := 0x11 })
      (fun t => t.a == 0x80 && t.b == 0x0 && t.pc == 0x0102 && t.ccr.toByte == 0xD8) = true := by
  decide +kernel

/-- V40-14: LDS #$03FF. -/
theorem test_lds_1 : runs (pokes [(0x0100, 0x8E), (0x0101, 0x03), (0x0102, 0xFF)]
      { base with sp := 0x0000 })
      (fun t => t.sp == 0x3FF && t.pc == 0x0103 && t.ccr.toByte == 0xD0) = true := by
  decide +kernel

/-- V40-10: LDX #$0000. -/
theorem test_ldx_1 : runs (pokes [(0x0100, 0xCE), (0x0101, 0x00), (0x0102, 0x00)]
      { base with ix := 0x1234 })
      (fun t => t.ix == 0x0 && t.pc == 0x0103 && t.ccr.toByte == 0xD4) = true := by
  decide +kernel

/-- V40-11: LDX 2,Y. -/
theorem test_ldx_2 :
    runs (pokes [(0x0100, 0xCD), (0x0101, 0xEE), (0x0102, 0x02), (0x0202, 0xAB), (0x0203, 0xCD)]
      { base with iy := 0x0200 })
      (fun t => t.ix == 0xABCD && t.pc == 0x0103 && t.ccr.toByte == 0xD8) = true := by
  decide +kernel

/-- V40-12: LDY #$8000. -/
theorem test_ldy_1 : runs (pokes [(0x0100, 0x18), (0x0101, 0xCE), (0x0102, 0x80), (0x0103, 0x00)]
      base)
      (fun t => t.iy == 0x8000 && t.pc == 0x0104 && t.ccr.toByte == 0xD8) = true := by
  decide +kernel

/-- V40-13: LDY 4,X. -/
theorem test_ldy_2 :
    runs (pokes [(0x0100, 0x1A), (0x0101, 0xEE), (0x0102, 0x04), (0x0204, 0x00), (0x0205, 0x01)]
      { base with ix := 0x0200 })
      (fun t => t.iy == 0x1 && t.pc == 0x0103 && t.ccr.toByte == 0xD0) = true := by
  decide +kernel

/-- V40-15: STAA $20. -/
theorem test_staa_1 : runs (pokes [(0x0100, 0x97), (0x0101, 0x20)] { base with a := 0x80 })
      (fun t => t.pc == 0x0102 && cell t 0x0020 == 0x80 && t.ccr.toByte == 0xD8) = true := by
  decide +kernel

/-- V40-16: STAB $0300. -/
theorem test_stab_1 : runs (pokes [(0x0100, 0xF7), (0x0101, 0x03), (0x0102, 0x00)]
      { base with b := 0x00, ccr := Ccr.ofByte 0xDB })
      (fun t => t.pc == 0x0103 && cell t 0x0300 == 0x00 && t.ccr.toByte == 0xD5) = true := by
  decide +kernel

/-- V40-17: STD $0040. -/
theorem test_std_1 : runs (pokes [(0x0100, 0xFD), (0x0101, 0x00), (0x0102, 0x40)]
      { base with a := 0x80, b := 0x01 })
      (fun t => t.pc == 0x0103 && cell t 0x0040 == 0x80 && cell t 0x0041 == 0x01 &&
        t.ccr.toByte == 0xD8) = true := by
  decide +kernel

/-- V40-20: STS $50. -/
theorem test_sts_1 : runs (pokes [(0x0100, 0x9F), (0x0101, 0x50)] { base with sp := 0x03F0 })
      (fun t => t.pc == 0x0102 && cell t 0x0050 == 0x03 && cell t 0x0051 == 0xF0 &&
        t.ccr.toByte == 0xD0) = true := by
  decide +kernel

/-- V40-18: STX 0,Y. -/
theorem test_stx_1 : runs (pokes [(0x0100, 0xCD), (0x0101, 0xEF), (0x0102, 0x00)]
      { base with ix := 0x1234, iy := 0x0210 })
      (fun t => t.pc == 0x0103 && cell t 0x0210 == 0x12 && cell t 0x0211 == 0x34 &&
        t.ccr.toByte == 0xD0) = true := by
  decide +kernel

/-- V40-19: STY $0220. -/
theorem test_sty_1 : runs (pokes [(0x0100, 0x18), (0x0101, 0xFF), (0x0102, 0x02), (0x0103, 0x20)]
      { base with iy := 0x0000 })
      (fun t => t.pc == 0x0104 && cell t 0x0220 == 0x00 && cell t 0x0221 == 0x00 &&
        t.ccr.toByte == 0xD4) = true := by
  decide +kernel

/-- V40-23: TAP. -/
theorem test_tap_1 : runs (pokes [(0x0100, 0x06)] { base with a := 0x00, ccr := Ccr.ofByte 0xD0 })
      (fun t => t.pc == 0x0101 && t.ccr.toByte == 0x00) = true := by
  decide +kernel

/-- V40-24: TAP. -/
theorem test_tap_2 : runs (pokes [(0x0100, 0x06)] { base with a := 0xFF, ccr := Ccr.ofByte 0x80 })
      (fun t => t.pc == 0x0101 && t.ccr.toByte == 0xBF) = true := by
  decide +kernel

/-- V40-25: TPA. -/
theorem test_tpa_1 : runs (pokes [(0x0100, 0x07)] { base with a := 0x00, ccr := Ccr.ofByte 0xD5 })
      (fun t => t.a == 0xD5 && t.pc == 0x0101 && t.ccr.toByte == 0xD5) = true := by
  decide +kernel

/-- V40-21: TAB. -/
theorem test_tab_1 : runs (pokes [(0x0100, 0x16)] { base with a := 0x90, b := 0x01 })
      (fun t => t.b == 0x90 && t.pc == 0x0101 && t.ccr.toByte == 0xD8) = true := by
  decide +kernel

/-- V40-22: TBA. -/
theorem test_tba_1 : runs (pokes [(0x0100, 0x17)]
      { base with a := 0x90, b := 0x00, ccr := Ccr.ofByte 0xD2 })
      (fun t => t.a == 0x0 && t.pc == 0x0101 && t.ccr.toByte == 0xD4) = true := by
  decide +kernel

/-- V40-26: TSX. -/
theorem test_tsx_1 : runs (pokes [(0x0100, 0x30)] { base with sp := 0x03FF })
      (fun t => t.ix == 0x400 && t.pc == 0x0101 && t.ccr.toByte == 0xD0) = true := by
  decide +kernel

/-- V40-27: TSX. -/
theorem test_tsx_2 : runs (pokes [(0x0100, 0x30)] { base with sp := 0xFFFF, ix := 0x1111 })
      (fun t => t.ix == 0x0 && t.pc == 0x0101 && t.ccr.toByte == 0xD0) = true := by
  decide +kernel

/-- V40-28: TSY. -/
theorem test_tsy_1 : runs (pokes [(0x0100, 0x18), (0x0101, 0x30)] { base with sp := 0x03F6 })
      (fun t => t.iy == 0x3F7 && t.pc == 0x0102 && t.ccr.toByte == 0xD0) = true := by
  decide +kernel

/-- V40-29: TXS. -/
theorem test_txs_1 : runs (pokes [(0x0100, 0x35)] { base with ix := 0x0400, sp := 0x0000 })
      (fun t => t.sp == 0x3FF && t.pc == 0x0101 && t.ccr.toByte == 0xD0) = true := by
  decide +kernel

/-- V40-30: TXS. -/
theorem test_txs_2 : runs (pokes [(0x0100, 0x35)] { base with ix := 0x0000 })
      (fun t => t.sp == 0xFFFF && t.pc == 0x0101 && t.ccr.toByte == 0xD0) = true := by
  decide +kernel

/-- V40-31: TYS. -/
theorem test_tys_1 : runs (pokes [(0x0100, 0x18), (0x0101, 0x35)] { base with iy := 0x0300 })
      (fun t => t.sp == 0x2FF && t.pc == 0x0102 && t.ccr.toByte == 0xD0) = true := by
  decide +kernel

/-- V40-32: XGDX. -/
theorem test_xgdx_1 : runs (pokes [(0x0100, 0x8F)]
      { base with a := 0x12, b := 0x34, ix := 0xABCD })
      (fun t => t.a == 0xAB && t.b == 0xCD && t.ix == 0x1234 && t.pc == 0x0101 &&
        t.ccr.toByte == 0xD0) = true := by
  decide +kernel

/-- V40-33: XGDY. -/
theorem test_xgdy_1 : runs (pokes [(0x0100, 0x18), (0x0101, 0x8F)]
      { base with a := 0x00, b := 0x01, iy := 0xFF00 })
      (fun t => t.a == 0xFF && t.b == 0x0 && t.iy == 0x1 && t.pc == 0x0102 &&
        t.ccr.toByte == 0xD0) = true := by
  decide +kernel

/-- V40-34: PSHA. -/
theorem test_psha_1 : runs (pokes [(0x0100, 0x36)] { base with a := 0x5A })
      (fun t => t.sp == 0x3FE && t.pc == 0x0101 && cell t 0x03FF == 0x5A &&
        t.ccr.toByte == 0xD0) = true := by
  decide +kernel

/-- V40-35: PSHB. -/
theorem test_pshb_1 : runs (pokes [(0x0100, 0x37)] { base with b := 0xA5, sp := 0x0000 })
      (fun t => t.sp == 0xFFFF && t.pc == 0x0101 && cell t 0x0000 == 0xA5 &&
        t.ccr.toByte == 0xD0) = true := by
  decide +kernel

/-- V40-36: PSHX. -/
theorem test_pshx_1 : runs (pokes [(0x0100, 0x3C)] { base with ix := 0x1234 })
      (fun t => t.sp == 0x3FD && t.pc == 0x0101 && cell t 0x03FF == 0x34 &&
        cell t 0x03FE == 0x12 && t.ccr.toByte == 0xD0) = true := by
  decide +kernel

/-- V40-37: PSHY. -/
theorem test_pshy_1 : runs (pokes [(0x0100, 0x18), (0x0101, 0x3C)] { base with iy := 0xBEEF })
      (fun t => t.sp == 0x3FD && t.pc == 0x0102 && cell t 0x03FF == 0xEF &&
        cell t 0x03FE == 0xBE && t.ccr.toByte == 0xD0) = true := by
  decide +kernel

/-- V40-38: PULA. -/
theorem test_pula_1 : runs (pokes [(0x0100, 0x32), (0x03FE, 0x80)]
      { base with sp := 0x03FD, ccr := Ccr.ofByte 0xD4 })
      (fun t => t.a == 0x80 && t.sp == 0x3FE && t.pc == 0x0101 &&
        t.ccr.toByte == 0xD4) = true := by
  decide +kernel

/-- V40-39: PULB. -/
theorem test_pulb_1 : runs (pokes [(0x0100, 0x33), (0x03FF, 0x11)] { base with sp := 0x03FE })
      (fun t => t.b == 0x11 && t.sp == 0x3FF && t.pc == 0x0101 &&
        t.ccr.toByte == 0xD0) = true := by
  decide +kernel

/-- V40-40: PULX. -/
theorem test_pulx_1 : runs (pokes [(0x0100, 0x38), (0x03FE, 0x12), (0x03FF, 0x34)]
      { base with sp := 0x03FD })
      (fun t => t.ix == 0x1234 && t.sp == 0x3FF && t.pc == 0x0101 &&
        t.ccr.toByte == 0xD0) = true := by
  decide +kernel

/-- V40-41: PULY. -/
theorem test_puly_1 : runs (pokes [(0x0100, 0x18), (0x0101, 0x38), (0x03FE, 0xBE), (0x03FF, 0xEF)]
      { base with sp := 0x03FD })
      (fun t => t.iy == 0xBEEF && t.sp == 0x3FF && t.pc == 0x0102 &&
        t.ccr.toByte == 0xD0) = true := by
  decide +kernel

/-- V40-42: CLR $0210. -/
theorem test_clr_1 : runs (pokes [(0x0100, 0x7F), (0x0101, 0x02), (0x0102, 0x10), (0x0210, 0xFF)]
      { base with ccr := Ccr.ofByte 0xDB })
      (fun t => t.pc == 0x0103 && cell t 0x0210 == 0x00 && t.ccr.toByte == 0xD4) = true := by
  decide +kernel

/-- V40-45: CLR 0,Y. -/
theorem test_clr_2 : runs (pokes [(0x0100, 0x18), (0x0101, 0x6F), (0x0102, 0x00), (0x0211, 0x33)]
      { base with iy := 0x0211 })
      (fun t => t.pc == 0x0103 && cell t 0x0211 == 0x00 && t.ccr.toByte == 0xD4) = true := by
  decide +kernel

/-- V40-43: CLRA. -/
theorem test_clra_1 : runs (pokes [(0x0100, 0x4F)]
      { base with a := 0x77, ccr := Ccr.ofByte 0xD9 })
      (fun t => t.a == 0x0 && t.pc == 0x0101 && t.ccr.toByte == 0xD4) = true := by
  decide +kernel

/-- V40-44: CLRB. -/
theorem test_clrb_1 : runs (pokes [(0x0100, 0x5F)]
      { base with b := 0x01, ccr := Ccr.ofByte 0xF0 })
      (fun t => t.b == 0x0 && t.pc == 0x0101 && t.ccr.toByte == 0xF4) = true := by
  decide +kernel

/-- V41-09: ABA. -/
theorem test_aba_1 : runs (pokes [(0x0100, 0x1B)] { base with a := 0x38, b := 0x45 })
      (fun t => t.a == 0x7D && t.pc == 0x0101 && t.ccr.toByte == 0xD0) = true := by
  decide +kernel

/-- V41-10: ABX. -/
theorem test_abx_1 : runs (pokes [(0x0100, 0x3A)]
      { base with b := 0xFF, ix := 0xFF80, ccr := Ccr.ofByte 0xD0 })
      (fun t => t.ix == 0x7F && t.pc == 0x0101 && t.ccr.toByte == 0xD0) = true := by
  decide +kernel

/-- V41-11: ABY. -/
theorem test_aby_1 : runs (pokes [(0x0100, 0x18), (0x0101, 0x3A)]
      { base with b := 0x10, iy := 0x0100 })
      (fun t => t.iy == 0x110 && t.pc == 0x0102 && t.ccr.toByte == 0xD0) = true := by
  decide +kernel

/-- V41-06: ADCA #$00. -/
theorem test_adca_1 : runs (pokes [(0x0100, 0x89), (0x0101, 0x00)]
      { base with a := 0x0F, ccr := Ccr.ofByte 0xD1 })
      (fun t => t.a == 0x10 && t.pc == 0x0102 && t.ccr.toByte == 0xF0) = true := by
  decide +kernel

/-- V41-07: ADCA #$FF. -/
theorem test_adca_2 : runs (pokes [(0x0100, 0x89), (0x0101, 0xFF)]
      { base with a := 0x00, ccr := Ccr.ofByte 0xD1 })
      (fun t => t.pc == 0x0102 && t.ccr.toByte == 0xF5) = true := by
  decide +kernel

/-- V41-08: ADCB #$7F. -/
theorem test_adcb_1 : runs (pokes [(0x0100, 0xC9), (0x0101, 0x7F)]
      { base with b := 0x00, ccr := Ccr.ofByte 0xD1 })
      (fun t => t.b == 0x80 && t.pc == 0x0102 && t.ccr.toByte == 0xFA) = true := by
  decide +kernel

/-- V41-01: ADDA #$01. -/
theorem test_adda_1 : runs (pokes [(0x0100, 0x8B), (0x0101, 0x01)] { base with a := 0x7F })
      (fun t => t.a == 0x80 && t.pc == 0x0102 && t.ccr.toByte == 0xFA) = true := by
  decide +kernel

/-- V41-04: ADDA #$08. -/
theorem test_adda_2 : runs (pokes [(0x0100, 0x8B), (0x0101, 0x08)] { base with a := 0x08 })
      (fun t => t.a == 0x10 && t.pc == 0x0102 && t.ccr.toByte == 0xF0) = true := by
  decide +kernel

/-- V41-05: ADDB $20. -/
theorem test_addb_1 : runs (pokes [(0x0100, 0xDB), (0x0101, 0x20), (0x0020, 0x22)]
      { base with b := 0x10, ccr := Ccr.ofByte 0xFF })
      (fun t => t.b == 0x32 && t.pc == 0x0102 && t.ccr.toByte == 0xD0) = true := by
  decide +kernel

/-- V41-12: ADDD #$0001. -/
theorem test_addd_1 : runs (pokes [(0x0100, 0xC3), (0x0101, 0x00), (0x0102, 0x01)]
      { base with a := 0x7F, b := 0xFF })
      (fun t => t.a == 0x80 && t.b == 0x0 && t.pc == 0x0103 && t.ccr.toByte == 0xDA) = true := by
  decide +kernel

/-- V41-14: ADDD 0,Y. -/
theorem test_addd_2 :
    runs (pokes [(0x0100, 0x18), (0x0101, 0xE3), (0x0102, 0x00), (0x0200, 0x80), (0x0201, 0x00)]
      { base with a := 0x80, b := 0x00, iy := 0x0200 })
      (fun t => t.a == 0x0 && t.pc == 0x0103 && t.ccr.toByte == 0xD7) = true := by
  decide +kernel

/-- V41-18: SBA. -/
theorem test_sba_1 : runs (pokes [(0x0100, 0x10)] { base with a := 0x50, b := 0x50 })
      (fun t => t.a == 0x0 && t.pc == 0x0101 && t.ccr.toByte == 0xD4) = true := by
  decide +kernel

/-- V41-19: SBCA #$00. -/
theorem test_sbca_1 : runs (pokes [(0x0100, 0x82), (0x0101, 0x00)]
      { base with a := 0x00, ccr := Ccr.ofByte 0xD1 })
      (fun t => t.a == 0xFF && t.pc == 0x0102 && t.ccr.toByte == 0xD9) = true := by
  decide +kernel

/-- V41-20: SBCB #$FF. -/
theorem test_sbcb_1 : runs (pokes [(0x0100, 0xC2), (0x0101, 0xFF)]
      { base with b := 0x00, ccr := Ccr.ofByte 0xD1 })
      (fun t => t.pc == 0x0102 && t.ccr.toByte == 0xD5) = true := by
  decide +kernel

/-- V41-15: SUBA #$01. -/
theorem test_suba_1 : runs (pokes [(0x0100, 0x80), (0x0101, 0x01)] { base with a := 0x00 })
      (fun t => t.a == 0xFF && t.pc == 0x0102 && t.ccr.toByte == 0xD9) = true := by
  decide +kernel

/-- V41-16: SUBA #$01. -/
theorem test_suba_2 : runs (pokes [(0x0100, 0x80), (0x0101, 0x01)] { base with a := 0x80 })
      (fun t => t.a == 0x7F && t.pc == 0x0102 && t.ccr.toByte == 0xD2) = true := by
  decide +kernel

/-- V41-17: SUBB #$80. -/
theorem test_subb_1 : runs (pokes [(0x0100, 0xC0), (0x0101, 0x80)] { base with b := 0x7F })
      (fun t => t.b == 0xFF && t.pc == 0x0102 && t.ccr.toByte == 0xDB) = true := by
  decide +kernel

/-- V41-21: SUBD #$0001. -/
theorem test_subd_1 : runs (pokes [(0x0100, 0x83), (0x0101, 0x00), (0x0102, 0x01)]
      { base with a := 0x00, b := 0x00 })
      (fun t => t.a == 0xFF && t.b == 0xFF && t.pc == 0x0103 &&
        t.ccr.toByte == 0xD9) = true := by
  decide +kernel

/-- V41-22: SUBD #$0001. -/
theorem test_subd_2 : runs (pokes [(0x0100, 0x83), (0x0101, 0x00), (0x0102, 0x01)]
      { base with a := 0x80, b := 0x00 })
      (fun t => t.a == 0x7F && t.b == 0xFF && t.pc == 0x0103 &&
        t.ccr.toByte == 0xD2) = true := by
  decide +kernel

/-- V41-26: CBA. -/
theorem test_cba_1 : runs (pokes [(0x0100, 0x11)] { base with a := 0x01, b := 0xFF })
      (fun t => t.pc == 0x0101 && t.ccr.toByte == 0xD1) = true := by
  decide +kernel

/-- V41-23: CMPA #$10. -/
theorem test_cmpa_1 : runs (pokes [(0x0100, 0x81), (0x0101, 0x10)] { base with a := 0x10 })
      (fun t => t.pc == 0x0102 && t.ccr.toByte == 0xD4) = true := by
  decide +kernel

/-- V41-24: CMPA #$20. -/
theorem test_cmpa_2 : runs (pokes [(0x0100, 0x81), (0x0101, 0x20)] { base with a := 0x10 })
      (fun t => t.pc == 0x0102 && t.ccr.toByte == 0xD9) = true := by
  decide +kernel

/-- V41-25: CMPB #$01. -/
theorem test_cmpb_1 : runs (pokes [(0x0100, 0xC1), (0x0101, 0x01)] { base with b := 0x80 })
      (fun t => t.pc == 0x0102 && t.ccr.toByte == 0xD2) = true := by
  decide +kernel

/-- V41-27: CPD #$1234. -/
theorem test_cpd_1 : runs (pokes [(0x0100, 0x1A), (0x0101, 0x83), (0x0102, 0x12), (0x0103, 0x34)]
      { base with a := 0x12, b := 0x34 })
      (fun t => t.pc == 0x0104 && t.ccr.toByte == 0xD4) = true := by
  decide +kernel

/-- V41-28: CPX #$0001. -/
theorem test_cpx_1 : runs (pokes [(0x0100, 0x8C), (0x0101, 0x00), (0x0102, 0x01)]
      { base with ix := 0x0000 })
      (fun t => t.pc == 0x0103 && t.ccr.toByte == 0xD9) = true := by
  decide +kernel

/-- V41-29: CPX 0,Y. -/
theorem test_cpx_2 :
    runs (pokes [(0x0100, 0xCD), (0x0101, 0xAC), (0x0102, 0x00), (0x0200, 0x00), (0x0201, 0x01)]
      { base with ix := 0x8000, iy := 0x0200 })
      (fun t => t.pc == 0x0103 && t.ccr.toByte == 0xD2) = true := by
  decide +kernel

/-- V41-30: CPY #$7FFF. -/
theorem test_cpy_1 : runs (pokes [(0x0100, 0x18), (0x0101, 0x8C), (0x0102, 0x7F), (0x0103, 0xFF)]
      { base with iy := 0x8000 })
      (fun t => t.pc == 0x0104 && t.ccr.toByte == 0xD2) = true := by
  decide +kernel

/-- V41-31: CPY 0,X. -/
theorem test_cpy_2 :
    runs (pokes [(0x0100, 0x1A), (0x0101, 0xAC), (0x0102, 0x00), (0x0200, 0x00), (0x0201, 0x05)]
      { base with iy := 0x0005, ix := 0x0200 })
      (fun t => t.pc == 0x0103 && t.ccr.toByte == 0xD4) = true := by
  decide +kernel

/-- V41-32: DAA. -/
theorem test_daa_1 : runs (pokes [(0x0100, 0x19)] { base with a := 0x7D, ccr := Ccr.ofByte 0xD0 })
      (fun t => t.a == 0x83 && t.pc == 0x0101 && t.ccr.n == true && t.ccr.z == false &&
        t.ccr.c == false) = true := by
  decide +kernel

/-- V41-37: DAA. -/
theorem test_daa_2 : runs (pokes [(0x0100, 0x19)] { base with a := 0xFF, ccr := Ccr.ofByte 0xD0 })
      (fun t => t.a == 0x65 && t.pc == 0x0101 && t.ccr.n == false && t.ccr.z == false &&
        t.ccr.c == true) = true := by
  decide +kernel

/-- V41-38: DEC $20. -/
theorem test_dec_1 : runs (pokes [(0x0100, 0x7A), (0x0101, 0x00), (0x0102, 0x20), (0x0020, 0x80)]
      base)
      (fun t => t.pc == 0x0103 && cell t 0x0020 == 0x7F && t.ccr.toByte == 0xD2) = true := by
  decide +kernel

/-- V41-41: DEC 1,X. -/
theorem test_dec_2 : runs (pokes [(0x0100, 0x6A), (0x0101, 0x01), (0x0201, 0x10)]
      { base with ix := 0x0200 })
      (fun t => t.pc == 0x0102 && cell t 0x0201 == 0x0F && t.ccr.toByte == 0xD0) = true := by
  decide +kernel

/-- V41-39: DECA. -/
theorem test_deca_1 : runs (pokes [(0x0100, 0x4A)]
      { base with a := 0x00, ccr := Ccr.ofByte 0xD1 })
      (fun t => t.a == 0xFF && t.pc == 0x0101 && t.ccr.toByte == 0xD9) = true := by
  decide +kernel

/-- V41-40: DECB. -/
theorem test_decb_1 : runs (pokes [(0x0100, 0x5A)] { base with b := 0x01 })
      (fun t => t.b == 0x0 && t.pc == 0x0101 && t.ccr.toByte == 0xD4) = true := by
  decide +kernel

/-- V41-45: DES. -/
theorem test_des_1 : runs (pokes [(0x0100, 0x34)] { base with sp := 0x0000 })
      (fun t => t.sp == 0xFFFF && t.pc == 0x0101 && t.ccr.toByte == 0xD0) = true := by
  decide +kernel

/-- V41-47: DEX. -/
theorem test_dex_1 : runs (pokes [(0x0100, 0x09)] { base with ix := 0x0001 })
      (fun t => t.ix == 0x0 && t.pc == 0x0101 && t.ccr.toByte == 0xD4) = true := by
  decide +kernel

/-- V41-48: DEX. -/
theorem test_dex_2 : runs (pokes [(0x0100, 0x09)]
      { base with ix := 0x0000, ccr := Ccr.ofByte 0xD4 })
      (fun t => t.ix == 0xFFFF && t.pc == 0x0101 && t.ccr.toByte == 0xD0) = true := by
  decide +kernel

/-- V41-50: DEY. -/
theorem test_dey_1 : runs (pokes [(0x0100, 0x18), (0x0101, 0x09)] { base with iy := 0x0100 })
      (fun t => t.iy == 0xFF && t.pc == 0x0102 && t.ccr.toByte == 0xD0) = true := by
  decide +kernel

/-- V41-42: INC $0230. -/
theorem test_inc_1 : runs (pokes [(0x0100, 0x7C), (0x0101, 0x02), (0x0102, 0x30), (0x0230, 0x7F)]
      base)
      (fun t => t.pc == 0x0103 && cell t 0x0230 == 0x80 && t.ccr.toByte == 0xDA) = true := by
  decide +kernel

/-- V41-43: INCA. -/
theorem test_inca_1 : runs (pokes [(0x0100, 0x4C)]
      { base with a := 0xFF, ccr := Ccr.ofByte 0xD0 })
      (fun t => t.a == 0x0 && t.pc == 0x0101 && t.ccr.toByte == 0xD4) = true := by
  decide +kernel

/-- V41-44: INCB. -/
theorem test_incb_1 : runs (pokes [(0x0100, 0x5C)] { base with b := 0x00 })
      (fun t => t.b == 0x1 && t.pc == 0x0101 && t.ccr.toByte == 0xD0) = true := by
  decide +kernel

/-- V41-46: INS. -/
theorem test_ins_1 : runs (pokes [(0x0100, 0x31)] { base with sp := 0xFFFF })
      (fun t => t.sp == 0x0 && t.pc == 0x0101 && t.ccr.toByte == 0xD0) = true := by
  decide +kernel

/-- V41-49: INX. -/
theorem test_inx_1 : runs (pokes [(0x0100, 0x08)] { base with ix := 0xFFFF })
      (fun t => t.ix == 0x0 && t.pc == 0x0101 && t.ccr.toByte == 0xD4) = true := by
  decide +kernel

/-- V41-51: INY. -/
theorem test_iny_1 : runs (pokes [(0x0100, 0x18), (0x0101, 0x08)] { base with iy := 0x7FFF })
      (fun t => t.iy == 0x8000 && t.pc == 0x0102 && t.ccr.toByte == 0xD0) = true := by
  decide +kernel

/-- V41-55: NEG $21. -/
theorem test_neg_1 : runs (pokes [(0x0100, 0x70), (0x0101, 0x00), (0x0102, 0x21), (0x0021, 0x7F)]
      base)
      (fun t => t.pc == 0x0103 && cell t 0x0021 == 0x81 && t.ccr.toByte == 0xD9) = true := by
  decide +kernel

/-- V41-52: NEGA. -/
theorem test_nega_1 : runs (pokes [(0x0100, 0x40)] { base with a := 0x80 })
      (fun t => t.pc == 0x0101 && t.ccr.toByte == 0xDB) = true := by
  decide +kernel

/-- V41-53: NEGA. -/
theorem test_nega_2 : runs (pokes [(0x0100, 0x40)]
      { base with a := 0x00, ccr := Ccr.ofByte 0xD1 })
      (fun t => t.pc == 0x0101 && t.ccr.toByte == 0xD4) = true := by
  decide +kernel

/-- V41-54: NEGB. -/
theorem test_negb_1 : runs (pokes [(0x0100, 0x50)] { base with b := 0x01 })
      (fun t => t.b == 0xFF && t.pc == 0x0101 && t.ccr.toByte == 0xD9) = true := by
  decide +kernel

/-- V41-58: TST 0,X. -/
theorem test_tst_1 : runs (pokes [(0x0100, 0x6D), (0x0101, 0x00), (0x0240, 0x01)]
      { base with ix := 0x0240, ccr := Ccr.ofByte 0xDF })
      (fun t => t.pc == 0x0102 && t.ccr.toByte == 0xD0) = true := by
  decide +kernel

/-- V41-56: TSTA. -/
theorem test_tsta_1 : runs (pokes [(0x0100, 0x4D)]
      { base with a := 0x80, ccr := Ccr.ofByte 0xD3 })
      (fun t => t.pc == 0x0101 && t.ccr.toByte == 0xD8) = true := by
  decide +kernel

/-- V41-57: TSTB. -/
theorem test_tstb_1 : runs (pokes [(0x0100, 0x5D)]
      { base with b := 0x00, ccr := Ccr.ofByte 0xD3 })
      (fun t => t.pc == 0x0101 && t.ccr.toByte == 0xD4) = true := by
  decide +kernel

/-- V41-59: MUL. -/
theorem test_mul_1 : runs (pokes [(0x0100, 0x3D)]
      { base with a := 0xFF, b := 0xFF, ccr := Ccr.ofByte 0xD1 })
      (fun t => t.a == 0xFE && t.b == 0x1 && t.pc == 0x0101 && t.ccr.toByte == 0xD0) = true := by
  decide +kernel

/-- V41-61: MUL. -/
theorem test_mul_2 : runs (pokes [(0x0100, 0x3D)]
      { base with a := 0x00, b := 0x55, ccr := Ccr.ofByte 0xD8 })
      (fun t => t.b == 0x0 && t.pc == 0x0101 && t.ccr.toByte == 0xD8) = true := by
  decide +kernel

/-- V41-62: IDIV. -/
theorem test_idiv_1 : runs (pokes [(0x0100, 0x02)]
      { base with a := 0x00, b := 0x64, ix := 0x0007 })
      (fun t => t.b == 0x2 && t.ix == 0xE && t.pc == 0x0101 && t.ccr.toByte == 0xD0) = true := by
  decide +kernel

/-- V41-65: IDIV. -/
theorem test_idiv_2 : runs (pokes [(0x0100, 0x02)]
      { base with a := 0x12, b := 0x34, ix := 0x0000 })
      (fun t => t.ix == 0xFFFF && t.pc == 0x0101 && t.ccr.toByte == 0xD1) = true := by
  decide +kernel

/-- V41-66: FDIV. -/
theorem test_fdiv_1 : runs (pokes [(0x0100, 0x03)]
      { base with a := 0x00, b := 0x01, ix := 0x0003 })
      (fun t => t.ix == 0x5555 && t.pc == 0x0101 && t.ccr.toByte == 0xD0) = true := by
  decide +kernel

/-- V41-71: FDIV. -/
theorem test_fdiv_2 : runs (pokes [(0x0100, 0x03)]
      { base with a := 0xFF, b := 0xFE, ix := 0xFFFF })
      (fun t => t.ix == 0xFFFE && t.pc == 0x0101 && t.ccr.toByte == 0xD0) = true := by
  decide +kernel

/-- V42-01: ANDA #$0F. -/
theorem test_anda_1 : runs (pokes [(0x0100, 0x84), (0x0101, 0x0F)]
      { base with a := 0xF0, ccr := Ccr.ofByte 0xD3 })
      (fun t => t.a == 0x0 && t.pc == 0x0102 && t.ccr.toByte == 0xD5) = true := by
  decide +kernel

/-- V42-02: ANDB #$80. -/
theorem test_andb_1 : runs (pokes [(0x0100, 0xC4), (0x0101, 0x80)] { base with b := 0xFF })
      (fun t => t.b == 0x80 && t.pc == 0x0102 && t.ccr.toByte == 0xD8) = true := by
  decide +kernel

/-- V42-03: BITA #$01. -/
theorem test_bita_1 : runs (pokes [(0x0100, 0x85), (0x0101, 0x01)] { base with a := 0xFE })
      (fun t => t.pc == 0x0102 && t.ccr.toByte == 0xD4) = true := by
  decide +kernel

/-- V42-04: BITB $20. -/
theorem test_bitb_1 : runs (pokes [(0x0100, 0xD5), (0x0101, 0x20), (0x0020, 0xC0)]
      { base with b := 0x80 })
      (fun t => t.pc == 0x0102 && t.ccr.toByte == 0xD8) = true := by
  decide +kernel

/-- V42-05: EORA #$FF. -/
theorem test_eora_1 : runs (pokes [(0x0100, 0x88), (0x0101, 0xFF)] { base with a := 0xFF })
      (fun t => t.a == 0x0 && t.pc == 0x0102 && t.ccr.toByte == 0xD4) = true := by
  decide +kernel

/-- V42-06: EORB #$81. -/
theorem test_eorb_1 : runs (pokes [(0x0100, 0xC8), (0x0101, 0x81)] { base with b := 0x01 })
      (fun t => t.b == 0x80 && t.pc == 0x0102 && t.ccr.toByte == 0xD8) = true := by
  decide +kernel

/-- V42-07: ORAA #$00. -/
theorem test_oraa_1 : runs (pokes [(0x0100, 0x8A), (0x0101, 0x00)]
      { base with a := 0x00, ccr := Ccr.ofByte 0xD2 })
      (fun t => t.pc == 0x0102 && t.ccr.toByte == 0xD4) = true := by
  decide +kernel

/-- V42-08: ORAB 3,Y. -/
theorem test_orab_1 : runs (pokes [(0x0100, 0x18), (0x0101, 0xEA), (0x0102, 0x03), (0x0203, 0x80)]
      { base with b := 0x01, iy := 0x0200 })
      (fun t => t.b == 0x81 && t.pc == 0x0103 && t.ccr.toByte == 0xD8) = true := by
  decide +kernel

/-- V42-11: COM $0250. -/
theorem test_com_1 : runs (pokes [(0x0100, 0x73), (0x0101, 0x02), (0x0102, 0x50), (0x0250, 0x55)]
      base)
      (fun t => t.pc == 0x0103 && cell t 0x0250 == 0xAA && t.ccr.toByte == 0xD9) = true := by
  decide +kernel

/-- V42-09: COMA. -/
theorem test_coma_1 : runs (pokes [(0x0100, 0x43)] { base with a := 0xFF })
      (fun t => t.a == 0x0 && t.pc == 0x0101 && t.ccr.toByte == 0xD5) = true := by
  decide +kernel

/-- V42-10: COMB. -/
theorem test_comb_1 : runs (pokes [(0x0100, 0x53)]
      { base with b := 0x00, ccr := Ccr.ofByte 0xD2 })
      (fun t => t.b == 0xFF && t.pc == 0x0101 && t.ccr.toByte == 0xD9) = true := by
  decide +kernel

/-- V42-12: BSET $20 #$81. -/
theorem test_bset_1 : runs (pokes [(0x0100, 0x14), (0x0101, 0x20), (0x0102, 0x81), (0x0020, 0x02)]
      { base with ccr := Ccr.ofByte 0xD3 })
      (fun t => t.pc == 0x0103 && cell t 0x0020 == 0x83 && t.ccr.toByte == 0xD9) = true := by
  decide +kernel

/-- V42-14: BSET 1,Y #$F0. -/
theorem test_bset_2 :
    runs (pokes [(0x0100, 0x18), (0x0101, 0x1C), (0x0102, 0x01), (0x0103, 0xF0), (0x0261, 0x0F)]
      { base with iy := 0x0260 })
      (fun t => t.pc == 0x0104 && cell t 0x0261 == 0xFF && t.ccr.toByte == 0xD8) = true := by
  decide +kernel

/-- V42-15: BCLR $20 #$FF. -/
theorem test_bclr_1 : runs (pokes [(0x0100, 0x15), (0x0101, 0x20), (0x0102, 0xFF), (0x0020, 0xA5)]
      base)
      (fun t => t.pc == 0x0103 && cell t 0x0020 == 0x00 && t.ccr.toByte == 0xD4) = true := by
  decide +kernel

/-- V42-17: BCLR 0,Y #$80. -/
theorem test_bclr_2 :
    runs (pokes [(0x0100, 0x18), (0x0101, 0x1D), (0x0102, 0x00), (0x0103, 0x80), (0x0263, 0x80)]
      { base with iy := 0x0263 })
      (fun t => t.pc == 0x0104 && cell t 0x0263 == 0x00 && t.ccr.toByte == 0xD4) = true := by
  decide +kernel

/-- V43-05: ASL $20. -/
theorem test_asl_1 : runs (pokes [(0x0100, 0x78), (0x0101, 0x00), (0x0102, 0x20), (0x0020, 0x55)]
      base)
      (fun t => t.pc == 0x0103 && cell t 0x0020 == 0xAA && t.ccr.toByte == 0xDA) = true := by
  decide +kernel

/-- V43-06: ASL 0,Y. -/
theorem test_asl_2 : runs (pokes [(0x0100, 0x18), (0x0101, 0x68), (0x0102, 0x00), (0x0270, 0xFF)]
      { base with iy := 0x0270 })
      (fun t => t.pc == 0x0103 && cell t 0x0270 == 0xFE && t.ccr.toByte == 0xD9) = true := by
  decide +kernel

/-- V43-01: ASLA. -/
theorem test_asla_1 : runs (pokes [(0x0100, 0x48)] { base with a := 0x80 })
      (fun t => t.a == 0x0 && t.pc == 0x0101 && t.ccr.toByte == 0xD7) = true := by
  decide +kernel

/-- V43-03: ASLA. -/
theorem test_asla_2 : runs (pokes [(0x0100, 0x48)] { base with a := 0xC0 })
      (fun t => t.a == 0x80 && t.pc == 0x0101 && t.ccr.toByte == 0xD9) = true := by
  decide +kernel

/-- V43-04: ASLB. -/
theorem test_aslb_1 : runs (pokes [(0x0100, 0x58)]
      { base with b := 0x01, ccr := Ccr.ofByte 0xD1 })
      (fun t => t.b == 0x2 && t.pc == 0x0101 && t.ccr.toByte == 0xD0) = true := by
  decide +kernel

/-- V43-07: ASLD. -/
theorem test_asld_1 : runs (pokes [(0x0100, 0x05)] { base with a := 0x40, b := 0x00 })
      (fun t => t.a == 0x80 && t.pc == 0x0101 && t.ccr.toByte == 0xDA) = true := by
  decide +kernel

/-- V43-09: ASLD. -/
theorem test_asld_2 : runs (pokes [(0x0100, 0x05)] { base with a := 0x00, b := 0x80 })
      (fun t => t.a == 0x1 && t.b == 0x0 && t.pc == 0x0101 && t.ccr.toByte == 0xD0) = true := by
  decide +kernel

/-- V43-13: ASR 0,X. -/
theorem test_asr_1 : runs (pokes [(0x0100, 0x67), (0x0101, 0x00), (0x0271, 0x7E)]
      { base with ix := 0x0271 })
      (fun t => t.pc == 0x0102 && cell t 0x0271 == 0x3F && t.ccr.toByte == 0xD0) = true := by
  decide +kernel

/-- V43-10: ASRA. -/
theorem test_asra_1 : runs (pokes [(0x0100, 0x47)] { base with a := 0x81 })
      (fun t => t.a == 0xC0 && t.pc == 0x0101 && t.ccr.toByte == 0xD9) = true := by
  decide +kernel

/-- V43-11: ASRA. -/
theorem test_asra_2 : runs (pokes [(0x0100, 0x47)] { base with a := 0x01 })
      (fun t => t.a == 0x0 && t.pc == 0x0101 && t.ccr.toByte == 0xD7) = true := by
  decide +kernel

/-- V43-12: ASRB. -/
theorem test_asrb_1 : runs (pokes [(0x0100, 0x57)] { base with b := 0x80 })
      (fun t => t.b == 0xC0 && t.pc == 0x0101 && t.ccr.toByte == 0xDA) = true := by
  decide +kernel

/-- V43-17: LSR $0272. -/
theorem test_lsr_1 : runs (pokes [(0x0100, 0x74), (0x0101, 0x02), (0x0102, 0x72), (0x0272, 0x02)]
      base)
      (fun t => t.pc == 0x0103 && cell t 0x0272 == 0x01 && t.ccr.toByte == 0xD0) = true := by
  decide +kernel

/-- V43-14: LSRA. -/
theorem test_lsra_1 : runs (pokes [(0x0100, 0x44)]
      { base with a := 0x01, ccr := Ccr.ofByte 0xD8 })
      (fun t => t.a == 0x0 && t.pc == 0x0101 && t.ccr.toByte == 0xD7) = true := by
  decide +kernel

/-- V43-15: LSRA. -/
theorem test_lsra_2 : runs (pokes [(0x0100, 0x44)] { base with a := 0x80 })
      (fun t => t.a == 0x40 && t.pc == 0x0101 && t.ccr.toByte == 0xD0) = true := by
  decide +kernel

/-- V43-16: LSRB. -/
theorem test_lsrb_1 : runs (pokes [(0x0100, 0x54)] { base with b := 0xFF })
      (fun t => t.b == 0x7F && t.pc == 0x0101 && t.ccr.toByte == 0xD3) = true := by
  decide +kernel

/-- V43-18: LSRD. -/
theorem test_lsrd_1 : runs (pokes [(0x0100, 0x04)] { base with a := 0x00, b := 0x01 })
      (fun t => t.b == 0x0 && t.pc == 0x0101 && t.ccr.toByte == 0xD7) = true := by
  decide +kernel

/-- V43-20: LSRD. -/
theorem test_lsrd_2 : runs (pokes [(0x0100, 0x04)] { base with a := 0xFF, b := 0xFF })
      (fun t => t.a == 0x7F && t.pc == 0x0101 && t.ccr.toByte == 0xD3) = true := by
  decide +kernel

/-- V43-24: ROL $20. -/
theorem test_rol_1 : runs (pokes [(0x0100, 0x79), (0x0101, 0x00), (0x0102, 0x20), (0x0020, 0xFF)]
      { base with ccr := Ccr.ofByte 0xD0 })
      (fun t => t.pc == 0x0103 && cell t 0x0020 == 0xFE && t.ccr.toByte == 0xD9) = true := by
  decide +kernel

/-- V43-21: ROLA. -/
theorem test_rola_1 : runs (pokes [(0x0100, 0x49)]
      { base with a := 0x80, ccr := Ccr.ofByte 0xD1 })
      (fun t => t.a == 0x1 && t.pc == 0x0101 && t.ccr.toByte == 0xD3) = true := by
  decide +kernel

/-- V43-22: ROLA. -/
theorem test_rola_2 : runs (pokes [(0x0100, 0x49)]
      { base with a := 0x00, ccr := Ccr.ofByte 0xD1 })
      (fun t => t.a == 0x1 && t.pc == 0x0101 && t.ccr.toByte == 0xD0) = true := by
  decide +kernel

/-- V43-23: ROLB. -/
theorem test_rolb_1 : runs (pokes [(0x0100, 0x59)]
      { base with b := 0x40, ccr := Ccr.ofByte 0xD0 })
      (fun t => t.b == 0x80 && t.pc == 0x0101 && t.ccr.toByte == 0xDA) = true := by
  decide +kernel

/-- V43-28: ROR 0,Y. -/
theorem test_ror_1 : runs (pokes [(0x0100, 0x18), (0x0101, 0x66), (0x0102, 0x00), (0x0273, 0x80)]
      { base with iy := 0x0273, ccr := Ccr.ofByte 0xD0 })
      (fun t => t.pc == 0x0103 && cell t 0x0273 == 0x40 && t.ccr.toByte == 0xD0) = true := by
  decide +kernel

/-- V43-25: RORA. -/
theorem test_rora_1 : runs (pokes [(0x0100, 0x46)]
      { base with a := 0x01, ccr := Ccr.ofByte 0xD0 })
      (fun t => t.a == 0x0 && t.pc == 0x0101 && t.ccr.toByte == 0xD7) = true := by
  decide +kernel

/-- V43-26: RORA. -/
theorem test_rora_2 : runs (pokes [(0x0100, 0x46)]
      { base with a := 0x00, ccr := Ccr.ofByte 0xD1 })
      (fun t => t.a == 0x80 && t.pc == 0x0101 && t.ccr.toByte == 0xDA) = true := by
  decide +kernel

/-- V43-27: RORB. -/
theorem test_rorb_1 : runs (pokes [(0x0100, 0x56)]
      { base with b := 0x03, ccr := Ccr.ofByte 0xD1 })
      (fun t => t.b == 0x81 && t.pc == 0x0101 && t.ccr.toByte == 0xD9) = true := by
  decide +kernel

/-- V44-01: BRA *+2+$10. -/
theorem test_bra_1 : runs (pokes [(0x0100, 0x20), (0x0101, 0x10)] base)
      (fun t => t.pc == 0x0112 && t.ccr.toByte == 0xD0) = true := by
  decide +kernel

/-- V44-04: BRA *+2+127. -/
theorem test_bra_2 : runs (pokes [(0x0100, 0x20), (0x0101, 0x7F)] base)
      (fun t => t.pc == 0x0181 && t.ccr.toByte == 0xD0) = true := by
  decide +kernel

/-- V44-05: BRN. -/
theorem test_brn_1 : runs (pokes [(0x0100, 0x21), (0x0101, 0x10)] base)
      (fun t => t.pc == 0x0102 && t.ccr.toByte == 0xD0) = true := by
  decide +kernel

/-- V44-09: BCC. -/
theorem test_bcc_1 : runs (pokes [(0x0100, 0x24), (0x0101, 0x02)]
      { base with ccr := Ccr.ofByte 0xD1 })
      (fun t => t.pc == 0x0102 && t.ccr.toByte == 0xD1) = true := by
  decide +kernel

/-- V44-10: BCS. -/
theorem test_bcs_1 : runs (pokes [(0x0100, 0x25), (0x0101, 0x02)]
      { base with ccr := Ccr.ofByte 0xD1 })
      (fun t => t.pc == 0x0104 && t.ccr.toByte == 0xD1) = true := by
  decide +kernel

/-- V44-06: BEQ. -/
theorem test_beq_1 : runs (pokes [(0x0100, 0x27), (0x0101, 0x04)]
      { base with ccr := Ccr.ofByte 0xD4 })
      (fun t => t.pc == 0x0106 && t.ccr.toByte == 0xD4) = true := by
  decide +kernel

/-- V44-07: BEQ. -/
theorem test_beq_2 : runs (pokes [(0x0100, 0x27), (0x0101, 0x04)]
      { base with ccr := Ccr.ofByte 0xD0 })
      (fun t => t.pc == 0x0102 && t.ccr.toByte == 0xD0) = true := by
  decide +kernel

/-- V44-08: BNE. -/
theorem test_bne_1 : runs (pokes [(0x0100, 0x26), (0x0101, 0xFC)]
      { base with ccr := Ccr.ofByte 0xD0 })
      (fun t => t.pc == 0x00FE && t.ccr.toByte == 0xD0) = true := by
  decide +kernel

/-- V44-11: BMI. -/
theorem test_bmi_1 : runs (pokes [(0x0100, 0x2B), (0x0101, 0x02)]
      { base with ccr := Ccr.ofByte 0xD8 })
      (fun t => t.pc == 0x0104 && t.ccr.toByte == 0xD8) = true := by
  decide +kernel

/-- V44-12: BPL. -/
theorem test_bpl_1 : runs (pokes [(0x0100, 0x2A), (0x0101, 0x02)]
      { base with ccr := Ccr.ofByte 0xD8 })
      (fun t => t.pc == 0x0102 && t.ccr.toByte == 0xD8) = true := by
  decide +kernel

/-- V44-13: BVS. -/
theorem test_bvs_1 : runs (pokes [(0x0100, 0x29), (0x0101, 0x02)]
      { base with ccr := Ccr.ofByte 0xD2 })
      (fun t => t.pc == 0x0104 && t.ccr.toByte == 0xD2) = true := by
  decide +kernel

/-- V44-14: BVC. -/
theorem test_bvc_1 : runs (pokes [(0x0100, 0x28), (0x0101, 0x02)]
      { base with ccr := Ccr.ofByte 0xD2 })
      (fun t => t.pc == 0x0102 && t.ccr.toByte == 0xD2) = true := by
  decide +kernel

/-- V44-15: BGE. -/
theorem test_bge_1 : runs (pokes [(0x0100, 0x2C), (0x0101, 0x02)]
      { base with ccr := Ccr.ofByte 0xDA })
      (fun t => t.pc == 0x0104 && t.ccr.toByte == 0xDA) = true := by
  decide +kernel

/-- V44-16: BGE. -/
theorem test_bge_2 : runs (pokes [(0x0100, 0x2C), (0x0101, 0x02)]
      { base with ccr := Ccr.ofByte 0xD8 })
      (fun t => t.pc == 0x0102 && t.ccr.toByte == 0xD8) = true := by
  decide +kernel

/-- V44-18: BGT. -/
theorem test_bgt_1 : runs (pokes [(0x0100, 0x2E), (0x0101, 0x02)]
      { base with ccr := Ccr.ofByte 0xD4 })
      (fun t => t.pc == 0x0102 && t.ccr.toByte == 0xD4) = true := by
  decide +kernel

/-- V44-19: BGT. -/
theorem test_bgt_2 : runs (pokes [(0x0100, 0x2E), (0x0101, 0x02)]
      { base with ccr := Ccr.ofByte 0xD0 })
      (fun t => t.pc == 0x0104 && t.ccr.toByte == 0xD0) = true := by
  decide +kernel

/-- V44-20: BLE. -/
theorem test_ble_1 : runs (pokes [(0x0100, 0x2F), (0x0101, 0x02)]
      { base with ccr := Ccr.ofByte 0xD4 })
      (fun t => t.pc == 0x0104 && t.ccr.toByte == 0xD4) = true := by
  decide +kernel

/-- V44-21: BLE. -/
theorem test_ble_2 : runs (pokes [(0x0100, 0x2F), (0x0101, 0x02)]
      { base with ccr := Ccr.ofByte 0xDA })
      (fun t => t.pc == 0x0102 && t.ccr.toByte == 0xDA) = true := by
  decide +kernel

/-- V44-17: BLT. -/
theorem test_blt_1 : runs (pokes [(0x0100, 0x2D), (0x0101, 0x02)]
      { base with ccr := Ccr.ofByte 0xD2 })
      (fun t => t.pc == 0x0104 && t.ccr.toByte == 0xD2) = true := by
  decide +kernel

/-- V44-22: BHI. -/
theorem test_bhi_1 : runs (pokes [(0x0100, 0x22), (0x0101, 0x02)]
      { base with ccr := Ccr.ofByte 0xD0 })
      (fun t => t.pc == 0x0104 && t.ccr.toByte == 0xD0) = true := by
  decide +kernel

/-- V44-23: BHI. -/
theorem test_bhi_2 : runs (pokes [(0x0100, 0x22), (0x0101, 0x02)]
      { base with ccr := Ccr.ofByte 0xD4 })
      (fun t => t.pc == 0x0102 && t.ccr.toByte == 0xD4) = true := by
  decide +kernel

/-- V44-24: BLS. -/
theorem test_bls_1 : runs (pokes [(0x0100, 0x23), (0x0101, 0x02)]
      { base with ccr := Ccr.ofByte 0xD1 })
      (fun t => t.pc == 0x0104 && t.ccr.toByte == 0xD1) = true := by
  decide +kernel

/-- V44-25: BLS. -/
theorem test_bls_2 : runs (pokes [(0x0100, 0x23), (0x0101, 0x02)]
      { base with ccr := Ccr.ofByte 0xD0 })
      (fun t => t.pc == 0x0102 && t.ccr.toByte == 0xD0) = true := by
  decide +kernel

/-- V44-26: BRSET $20 #$81 *+4+5. -/
theorem test_brset_1 :
    runs (pokes [(0x0100, 0x12), (0x0101, 0x20), (0x0102, 0x81), (0x0103, 0x05), (0x0020, 0xC1)]
      base)
      (fun t => t.pc == 0x0109 && t.ccr.toByte == 0xD0) = true := by
  decide +kernel

/-- V44-29: BRSET 1,Y #$01. -/
theorem test_brset_2 :
    runs (pokes [(0x0100, 0x18), (0x0101, 0x1E), (0x0102, 0x01), (0x0103, 0x01),
      (0x0104, 0xF0), (0x0281, 0x01)] { base with iy := 0x0280 })
      (fun t => t.pc == 0x00F5 && t.ccr.toByte == 0xD0) = true := by
  decide +kernel

/-- V44-30: BRCLR $20 #$0F. -/
theorem test_brclr_1 :
    runs (pokes [(0x0100, 0x13), (0x0101, 0x20), (0x0102, 0x0F), (0x0103, 0x05), (0x0020, 0xF0)]
      base)
      (fun t => t.pc == 0x0109 && t.ccr.toByte == 0xD0) = true := by
  decide +kernel

/-- V44-33: BRCLR 0,Y #$FF. -/
theorem test_brclr_2 :
    runs (pokes [(0x0100, 0x18), (0x0101, 0x1F), (0x0102, 0x00), (0x0103, 0xFF),
      (0x0104, 0x02), (0x0282, 0x00)] { base with iy := 0x0282 })
      (fun t => t.pc == 0x0107 && t.ccr.toByte == 0xD0) = true := by
  decide +kernel

/-- V44-34: BSR *+2+$20. -/
theorem test_bsr_1 : runs (pokes [(0x0100, 0x8D), (0x0101, 0x20)] base)
      (fun t => t.sp == 0x3FD && t.pc == 0x0122 && cell t 0x03FF == 0x02 &&
        cell t 0x03FE == 0x01 && t.ccr.toByte == 0xD0) = true := by
  decide +kernel

/-- V44-39: JMP $0200. -/
theorem test_jmp_1 : runs (pokes [(0x0100, 0x7E), (0x0101, 0x02), (0x0102, 0x00)] base)
      (fun t => t.pc == 0x0200 && t.ccr.toByte == 0xD0) = true := by
  decide +kernel

/-- V44-41: JMP 0,Y. -/
theorem test_jmp_2 : runs (pokes [(0x0100, 0x18), (0x0101, 0x6E), (0x0102, 0x00)]
      { base with iy := 0x0123 })
      (fun t => t.pc == 0x0123 && t.ccr.toByte == 0xD0) = true := by
  decide +kernel

/-- V44-35: JSR $40. -/
theorem test_jsr_1 : runs (pokes [(0x0100, 0x9D), (0x0101, 0x40)] base)
      (fun t => t.sp == 0x3FD && t.pc == 0x0040 && cell t 0x03FF == 0x02 &&
        cell t 0x03FE == 0x01 && t.ccr.toByte == 0xD0) = true := by
  decide +kernel

/-- V44-38: JSR 0,Y. -/
theorem test_jsr_2 : runs (pokes [(0x0100, 0x18), (0x0101, 0xAD), (0x0102, 0x00)]
      { base with iy := 0x0310 })
      (fun t => t.sp == 0x3FD && t.pc == 0x0310 && cell t 0x03FF == 0x03 &&
        cell t 0x03FE == 0x01 && t.ccr.toByte == 0xD0) = true := by
  decide +kernel

/-- V44-42: RTS. -/
theorem test_rts_1 : runs (pokes [(0x0100, 0x39), (0x03FE, 0x01), (0x03FF, 0x02)]
      { base with sp := 0x03FD })
      (fun t => t.sp == 0x3FF && t.pc == 0x0102 && t.ccr.toByte == 0xD0) = true := by
  decide +kernel

/-- V45-01: CLC. -/
theorem test_clc_1 : runs (pokes [(0x0100, 0x0C)] { base with ccr := Ccr.ofByte 0xFF })
      (fun t => t.pc == 0x0101 && t.ccr.toByte == 0xFE) = true := by
  decide +kernel

/-- V45-03: CLI. -/
theorem test_cli_1 : runs (pokes [(0x0100, 0x0E)] { base with ccr := Ccr.ofByte 0xD0 })
      (fun t => t.pc == 0x0101 && t.ccr.toByte == 0xC0) = true := by
  decide +kernel

/-- V45-05: CLV. -/
theorem test_clv_1 : runs (pokes [(0x0100, 0x0A)] { base with ccr := Ccr.ofByte 0xD2 })
      (fun t => t.pc == 0x0101 && t.ccr.toByte == 0xD0) = true := by
  decide +kernel

/-- V45-02: SEC. -/
theorem test_sec_1 : runs (pokes [(0x0100, 0x0D)] { base with ccr := Ccr.ofByte 0xD0 })
      (fun t => t.pc == 0x0101 && t.ccr.toByte == 0xD1) = true := by
  decide +kernel

/-- V45-04: SEI. -/
theorem test_sei_1 : runs (pokes [(0x0100, 0x0F)] { base with ccr := Ccr.ofByte 0xC0 })
      (fun t => t.pc == 0x0101 && t.ccr.toByte == 0xD0) = true := by
  decide +kernel

/-- V45-06: SEV. -/
theorem test_sev_1 : runs (pokes [(0x0100, 0x0B)] { base with ccr := Ccr.ofByte 0xD0 })
      (fun t => t.pc == 0x0101 && t.ccr.toByte == 0xD2) = true := by
  decide +kernel

/-- V45-07: NOP. -/
theorem test_nop_1 : runs (pokes [(0x0100, 0x01)] { base with ccr := Ccr.ofByte 0xFF })
      (fun t => t.pc == 0x0101 && t.ccr.toByte == 0xFF) = true := by
  decide +kernel

/-- V45-09: RTI. -/
theorem test_rti_1 :
    runs (pokes [(0x0100, 0x3B), (0x03F7, 0xC1), (0x03F8, 0x22), (0x03F9, 0x11),
      (0x03FA, 0x33), (0x03FB, 0x44), (0x03FC, 0x55), (0x03FD, 0x66), (0x03FE, 0x01),
      (0x03FF, 0x01)] { base with sp := 0x03F6, ccr := Ccr.ofByte 0xD0 })
      (fun t => t.a == 0x11 && t.b == 0x22 && t.ix == 0x3344 && t.iy == 0x5566 &&
        t.sp == 0x3FF && t.pc == 0x0101 && t.ccr.toByte == 0xC1) = true := by
  decide +kernel

/-- V45-11: RTI. -/
theorem test_rti_2 : runs (pokes [(0x0100, 0x3B), (0x03F7, 0xFF), (0x03FE, 0x02), (0x03FF, 0x00)]
      { base with sp := 0x03F6, ccr := Ccr.ofByte 0x90 })
      (fun t => t.sp == 0x3FF && t.pc == 0x0200 && t.ccr.toByte == 0xBF) = true := by
  decide +kernel

/-- V45-08: SWI. -/
theorem test_swi_1 : runs (pokes [(0x0100, 0x3F), (0xFFF6, 0x02), (0xFFF7, 0x00)]
      { base with a := 0x11, b := 0x22, ix := 0x3344, iy := 0x5566, ccr := Ccr.ofByte 0xC1 })
      (fun t => t.sp == 0x3F6 && t.pc == 0x0200 && cell t 0x03FF == 0x01 &&
        cell t 0x03FE == 0x01 && cell t 0x03FD == 0x66 && cell t 0x03FC == 0x55 &&
        cell t 0x03FB == 0x44 && cell t 0x03FA == 0x33 && cell t 0x03F9 == 0x11 &&
        cell t 0x03F8 == 0x22 && cell t 0x03F7 == 0xC1 && t.ccr.toByte == 0xD1) = true := by
  decide +kernel

/-- V45-12: WAI. -/
theorem test_wai_1 : runs (pokes [(0x0100, 0x3E)]
      { base with a := 0xAA, b := 0xBB, ix := 0x0102, iy := 0x0304, ccr := Ccr.ofByte 0xC0 })
      (fun t => t.sp == 0x3F6 && t.pc == 0x0101 && cell t 0x03FF == 0x01 &&
        cell t 0x03FE == 0x01 && cell t 0x03FD == 0x04 && cell t 0x03FC == 0x03 &&
        cell t 0x03FB == 0x02 && cell t 0x03FA == 0x01 && cell t 0x03F9 == 0xAA &&
        cell t 0x03F8 == 0xBB && cell t 0x03F7 == 0xC0 && t.ccr.toByte == 0xC0) = true := by
  decide +kernel

/-- V45-13: STOP. -/
theorem test_stop_1 : runs (pokes [(0x0100, 0xCF)] { base with ccr := Ccr.ofByte 0xD0 })
      (fun t => t.pc == 0x0101 && t.ccr.toByte == 0xD0) = true := by
  decide +kernel

/-- V45-14: STOP. -/
theorem test_stop_2 : runs (pokes [(0x0100, 0xCF)] { base with ccr := Ccr.ofByte 0x50 })
      (fun t => t.pc == 0x0101 && t.ccr.toByte == 0x50) = true := by
  decide +kernel

/-- V45-15: TEST. -/
theorem test_test_1 : runs (pokes [(0x0100, 0x00), (0xFFF8, 0x03), (0xFFF9, 0x00)]
      { base with ccr := Ccr.ofByte 0xC0 })
      (fun t => t.sp == 0x3F6 && t.pc == 0x0300 && cell t 0x03FF == 0x00 &&
        cell t 0x03FE == 0x01 && cell t 0x03FD == 0x00 && cell t 0x03FC == 0x00 &&
        cell t 0x03FB == 0x00 && cell t 0x03FA == 0x00 && cell t 0x03F9 == 0x00 &&
        cell t 0x03F8 == 0x00 && cell t 0x03F7 == 0xC0 && t.ccr.toByte == 0xD0) = true := by
  decide +kernel

/-! ### Steps beyond the vectors of spec/95 -/

/-- 45 R412: STOP with S = 0 stops the CPU. -/
theorem test_stop_stops :
    runs (pokes [(0x0100, 0xCF)] { base with ccr := Ccr.ofByte 0x50 }) (fun t => t.run == .stopped) =
      true := by
  decide +kernel

/-- 30 R183: opcode $87 is the illegal opcode trap, its own address stacked. -/
theorem test_illegal_opcode :
    runs (pokes [(0x0100, 0x87), (0xFFF8, 0xC1), (0xFFF9, 0x23)] base)
      (fun t => t.pc == 0xC123 && t.sp == 0x03F6 && cell t 0x03FF == 0x00 && cell t 0x03FE == 0x01) =
      true := by
  decide +kernel

/-- The first instruction after reset is the one placed where the step fetches. -/
theorem test_first_instruction :
    runs (State.reset.withFetchWord 16 0x8680) (fun t => t.a == 0x80 && t.pc == 0x0001) = true := by
  decide +kernel

/-- 20 R158: a bulk erase aimed at a protected byte erases nothing; aimed at an unprotected one it erases
the unprotected blocks. -/
theorem test_bulk_erase_aims :
    (let s (off : Nat) : State :=
      { pokes [(0xFE00, 0x55), (0xFFFF, 0x55)] base with
        ee := { bprot := 0x08, pprog := 0x07, latch := some (.array off, 0) } }
     (writeByte 0x103B 0 (s 511)).mem.get .eeprom 0 = some 0x55 ∧
       (writeByte 0x103B 0 (s 0)).mem.get .eeprom 0 = some 0xFF ∧
       (writeByte 0x103B 0 (s 0)).mem.get .eeprom 511 = some 0x55) := by
  decide +kernel

/-- 10 R73: while SBK = 1 breaks are sent, though SCDR is full. -/
theorem test_break_before_data :
    ({ base.sci with sccr2 := 0x09, tdrFull := true, scsr := 0x40 } : Sci).start.frame =
      some .breakCode := by
  decide

/-- 45 R412: a stopped SCI receives nothing, a stopped timer captures nothing. -/
theorem test_stop_keeps_units :
    (let s : State :=
      { base with
        run := .stopped
        sci := { base.sci with sccr2 := 0x04 }, timer := { base.timer with tctl2 := 0x10 } }
     (applyEvent (.sciRx 0x41 false true false) s).sci = s.sci ∧
       (applyEvent (.pins { Pins.initial with pa := 0x04 }) s).timer = s.timer) := by
  decide +kernel

/-- 60 R496: with CONFIG latched and PTCON = 1 a bulk erase changes nothing; with PTCON = 0 it does. -/
theorem test_config_protected :
    (let s (bprot : Byte) : State :=
      { base with
        ee := { bprot := bprot, pprog := 0x07, latch := some (.config, 0) }
        sys := { base.sys with configCells := 0x0F } }
     (writeByte 0x103B 0 (s 0x10)).sys.configCells = 0x0F ∧
       (writeByte 0x103B 0 (s 0)).sys.configCells = 0xFF) := by
  decide +kernel

/-- 60 R471: FOC2 with OM2:OL2 = 01 toggles PA6, FOC1 puts OC1D on PA7, no flag is set. -/
theorem test_force_compare :
    (let s : State :=
      { base with timer := { base.timer with tctl1 := 0x40, oc1m := 0x80, oc1d := 0x80 } }
     (writeByte 0x100B 0xC0 s).timer.ocOut = 0xC0 ∧ (writeByte 0x100B 0xC0 s).timer.tflg1 = 0) := by
  decide +kernel

/-- 60 R454: a converter that is powered down starts nothing and drops what it was doing. -/
theorem test_adc_power :
    (let off : State := { base with sys := { base.sys with option := 0x10 } }
     let on : State := { base with sys := { base.sys with option := 0x90 } }
     (writeByte 0x1030 0x80 off).adc.active = false ∧ (writeByte 0x1030 0x80 on).adc.active = true ∧
       (tick { off with adc := { off.adc with active := true, left := 1 } }).adc.active = false ∧
       peek on 0x1031 = some 0 ∧ peek off 0x1031 = none) := by
  decide +kernel

/-- 60 R488: MULT = 1 with CD:CC = 11 puts $FF, $00, $80 of channels 12, 13, 14 into ADR1 to ADR3. -/
theorem test_adc_group :
    (let s : State := { base with sys := { base.sys with option := 0x90 } }
     let t := advance 128 (writeByte 0x1030 0x1C s)
     t.adc.adr1 = 0xFF ∧ t.adc.adr2 = 0x00 ∧ t.adc.adr3 = 0x80 ∧ t.adc.adctl = 0x9C ∧
       t.adc.active = false) := by
  decide +kernel

/-- 45 R413: with DLY = 0 a low XIRQ with X = 1 lets a stopped CPU go on with nothing owed; with DLY = 1 it owes
the delay. -/
theorem test_exit_delay :
    (let s (v : Byte) : State := { base with sys := { base.sys with option := v } }
     (restart (s 0x00)).owed = base.owed ∧ (restart (s 0x10)).owed = base.owed + Config.stopDelay) :=
  ⟨rfl, rfl⟩

/-- 10 R45: after a reset in single-chip mode the latch PORTB is 0; in expanded mode it is a free value. -/
theorem test_port_latches :
    (resetPortsTimer { base with mode := .singleChip }).ports.b = 0 ∧
    (resetPortsTimer { base with mode := .expanded }).ports.b = Config.freeByte (base.draws + 1) :=
  ⟨rfl, rfl⟩

/-- 60 R481: a sleeping receiver wakes on an address mark where WAKE = 1, on an idle line where WAKE = 0. -/
theorem test_wake_up :
    (let s (sccr1 : Byte) : Sci := { base.sci with sccr1 := sccr1, sccr2 := 0x06 }
     ((s 0x08).rx 0x80 false true false).sccr2 = 0x04 ∧ ((s 0x08).rx 0x80 false true false).rdr = 0x80 ∧
       ((s 0x08).rx 0x7F false true false).sccr2 = 0x06 ∧ (s 0x00).idle.sccr2 = 0x04 ∧
       (s 0x08).idle.sccr2 = 0x06) := by
  decide +kernel

/-- 60 R471: OC5 compares where I4/O5 = 0 and not where it is 1; 60 R473: IC4 captures there instead. -/
theorem test_oc5_ic4 :
    (let t (pactl : Byte) : Timer :=
      { base.timer with tcnt := 0x1233, ti4o5 := 0x1234, pactl := pactl, tctl2 := 0x40 }
     (t 0x00).increment.tflg1 = 0x08 ∧ (t 0x04).increment.tflg1 = 0x00 ∧
       ((t 0x04).captures 0x00 0x08).ti4o5 = 0x1233 ∧ ((t 0x00).captures 0x00 0x08).tflg1 = 0x00) := by
  decide +kernel

/-- 60 R477: the 64th cycle of the enabling level counts, and PACNT = $FF wraps with PAOVF. -/
theorem test_gated_count :
    (let t : Timer := { base.timer with pactl := 0x60, pacnt := 0xFF, paPhase := 63 }
     (t.paGate true).pacnt = 0 ∧ (t.paGate true).tflg2 = 0x20 ∧ (t.paGate false).pacnt = 0xFF) := by
  decide +kernel

/-- 60 R485: a master's write of SPDR starts 8 SCK periods; one during the exchange sets WCOL and keeps it. -/
theorem test_spdr_write :
    (let s : State := { base with spi := { base.spi with spcr := 0x51 } }
     let t := writeByte 0x102A 0x55 s
     t.spi.left = 32 ∧ t.spi.shift = 0x55 ∧ (writeByte 0x102A 0xAA t).spi = { t.spi with spsr := 0x40 }) := by
  decide +kernel

/-- 60 R480: setting TE queues a preamble; the character written to SCDR is loaded after it. -/
theorem test_scdr_write :
    (let t := tick (writeByte 0x102F 0x41 (writeByte 0x102D 0x08 base))
     t.sci.frame = some .preamble ∧ t.sci.tdrFull = true ∧
       (tick { t with sci := { t.sci with left := 1 } }).sci.frame = some (.char 0x41 none)) := by
  decide +kernel

/-- The watchdog on and due to fail in the next cycle, LDAA #$80 at $0100. -/
def copState (s : State) : State :=
  pokes [(0x0100, 0x86), (0x0101, 0x80)]
    { s with
      sys := { s.sys with config := 0xFB, option := 0x00 }
      cycles := 32767, cop := { s.cop with count := 32767 } }

/-- 70 R520: a COP failure in the cycles of LDAA #$80 leaves out its effect and fetches $FFFA. -/
theorem test_reset_in_instruction :
    (match step (copState { base with a := 0x11, mem := (pokes [(0xFFFA, 0xA1), (0xFFFB, 0x23)] base).mem }) with
     | .next t => t.pc == 0xA123 && t.cycles == 0
     | _ => false) = true := by
  decide +kernel

/-! ### The hypotheses of the statements can be met -/

theorem test_witness_decode_encode :
    (Instr.brset (.indY 0xFF) 0xFF 0x80).wf = true ∧ (Instr.jmp (.ext 0xFFFF)).wf = true := by decide

theorem test_witness_encode_decode :
    decode [0x18, 0x1E, 0xFF, 0xFF, 0x80, 0x01] = .ok (.brset (.indY 0xFF) 0xFF 0x80, [0x01]) := by
  decide

theorem test_witness_illegal_opcodes :
    (prebyte? 0x18 = some .p2 ∧ prebyte? 0x18 ≠ none) ∧ (prebyte? 0xCD = some .p4 ∧
      prebyte? 0x1A ≠ none) ∧ (Page.p4, 4) ∈ [(Page.p1, 233), (.p2, 64), (.p3, 7), (.p4, 4)] := by
  decide

/-- LDAA #$80 at `pc`. -/
def atPc (pc : Word) : State := pokes [(pc, 0x86), (pc + 1, 0x80)] { base with pc := pc }

/-- The hypotheses of `StepRunsInstruction` for LDAA #$80 in state `s`. -/
def runsHyps (s : State) : Bool :=
  let u := { boundary s with inhibit := false }
  let bytes : List Byte := [0x86, 0x80]
  resetCause (boundary s) == none && (boundary s).run == .running && recognise (boundary s) == none &&
    decide (decode bytes = .ok (.ldaa (.imm 0x80), [])) &&
    (List.range 2).all (fun k => isReg u (u.pc + BitVec.ofNat 16 k) == false &&
      peek u (u.pc + BitVec.ofNat 16 k) == bytes[k]?) &&
    resetCause (spend 2 (fetch u).2) == none

theorem test_witness_step_runs_instruction :
    runsHyps (atPc 0x0100) = true ∧ runsHyps (atPc 0xFFFF) = true := by
  decide +kernel

/-- The unassigned opcode $87 and a vector in the EEPROM. -/
def trapState : State := pokes [(0x0100, 0x87), (0xFFF8, 0xC1), (0xFFF9, 0x23)] base

theorem test_witness_step_traps_illegal : ∃ u t : State,
    u = { boundary trapState with inhibit := false } ∧ t = spend 14 (fetch u).2 ∧
    resetCause (boundary trapState) = none ∧ (boundary trapState).run = .running ∧
    recognise (boundary trapState) = none ∧ decode (fetch u).1 = .error (.illegalOpcode .p1 0x87) ∧
    resetCause t = none ∧ (∀ a, inFrame u.sp a → isReg t a = false) ∧
    (∀ a, inFrame t.sp a → isCell t a = true) ∧
    ¬ inFrame u.sp (vectorAddr t 0xFFF8) ∧ ¬ inFrame u.sp (vectorAddr t 0xFFF8 + 1) ∧
    peek t (vectorAddr t 0xFFF8) = some 0xC1 ∧ peek t (vectorAddr t 0xFFF8 + 1) = some 0x23 := by
  refine ⟨_, _, rfl, rfl, by decide +kernel, by decide +kernel, by decide +kernel, by decide +kernel,
    by decide +kernel, ?_, ?_, frame_not (by decide +kernel), frame_not (by decide +kernel),
    by decide +kernel, by decide +kernel⟩
  · intro a ha
    simpa using frame_all (p := fun a => !isReg _ a) (by decide +kernel) a ha
  · exact frame_all (by decide +kernel)

theorem test_witness_step_keeps_inv : base.Inv ∧ (atPc 0x0100).Inv ∧ ∃ t, step (atPc 0x0100) = .next t := by
  refine ⟨?_, ?_, ?_⟩
  · constructor <;> try simp only [Ports.ok, Timer.ok, Sci.ok, Spi.ok, Adc.ok, EeCtl.ok, Sys.ok]
    case ee => exact ⟨by decide, by decide, by intro off v h; cases h⟩
    all_goals decide
  · constructor <;> try simp only [Ports.ok, Timer.ok, Sci.ok, Spi.ok, Adc.ok, EeCtl.ok, Sys.ok]
    case ee => exact ⟨by decide, by decide, by intro off v h; cases h⟩
    all_goals decide +kernel
  · obtain ⟨t, h, _⟩ := next_of_runs (s := atPc 0x0100) (p := fun _ => true) (by decide +kernel)
    exact ⟨t, h⟩

theorem test_witness_x_only_cleared : ∃ t, exec .nop base = .next t ∧ t.ccr.x = true :=
  next_of_gives (by decide +kernel)

theorem test_witness_condition_code_writers :
    (∃ t, exec .inca base = .next t) ∧ base.ccr.i = true ∧ Instr.inca ≠ .tap ∧ Instr.inca ≠ .rti ∧
      Instr.inca ≠ .cli ∧ Instr.inca.addsBytes = false := by
  refine ⟨?_, by decide, by decide, by decide, by decide, by decide⟩
  obtain ⟨t, h, _⟩ := next_of_gives (i := .inca) (s := base) (p := fun _ => true) (by decide +kernel)
  exact ⟨t, h⟩

/-- Bytes at both ends of the RAM and of the address space. -/
def edges : State :=
  pokes [(0x0000, 0x12), (0x0001, 0x34), (0x03FE, 0x56), (0x03FF, 0x78), (0xFFFF, 0x9A)] base

theorem test_witness_reads_tell_memory :
    (isReg edges 0xFFFF = false ∧ peek edges 0xFFFF = some 0x9A ∧ peek edges 0x0000 = some 0x12) ∧
    (isReg edges 0x03FE = false ∧ peek edges 0x03FE = some 0x56 ∧ peek edges 0x03FF = some 0x78) ∧
    (isReg edges 0x1000 = true ∧ isReg edges 0x107F = true ∧ isReg edges 0x1080 = false) ∧
    (resolve base 0x100E = .reg 0x0E ∧ resolve base 0x1016 ≠ .reg 0x0E ∧
      peek base 0x1016 = some 0xFF ∧ peek (readByte 0x1016 base).2 0x1017 = some 0xFF) ∧
    (∃ h l, h = readByte 0x1016 base ∧ l = readByte (0x1016 + 1) h.2) := by
  refine ⟨?_, ?_, ?_, ?_, _, _, rfl, rfl⟩ <;>
  decide +kernel

/-- Special bootstrap mode. -/
def bootState : State :=
  { base with sys := { base.sys with hprio := 0xC6 }, mode := .bootstrap }

theorem test_witness_writes_store :
    (isReg base 0x0000 = false ∧ isCell base 0x0000 = true) ∧
    (isReg base 0x03FF = false ∧ isCell base 0x03FF = true) ∧
    (resolve base 0x0400 = .mem .ext 0x400 ∧ isCell base 0x0400 = true) ∧ isCell base 0xFE00 = false ∧
    resolve base 0x1000 = .reg 0 ∧ resolve base 0x107F = .reg 0x7F ∧
    resolve bootState 0xBF00 = .mem .boot 0 ∧ resolve bootState 0xBFFF = .mem .boot 255 ∧
    (resolve base 0xFE00 = .mem .eeprom 0 ∧ resolve base 0xFFFF = .mem .eeprom 511 ∧
      base.eelat = false) := by
  decide +kernel

theorem test_witness_load_wide :
    (Instr.lds (.imm 0), Reg16.sp) ∈ [(Instr.ldd (.imm 0), Reg16.d), (.lds (.imm 0), .sp),
      (.ldx (.imm 0), .x), (.ldy (.imm 0), .y)] ∧
    (Src16.mem (.ext 0x1000)).reg base = true ∧ (Src16.mem (.ext 0x0FFF)).reg base = true ∧
    (Src16.mem (.ext 0x1080)).reg base = false := by
  decide +kernel

/-- One byte stored at either end of the RAM, in external memory, and into a register. -/
theorem test_witness_store_bytes :
    (isReg base (ea (.dir 0x00) base) = false ∧ isCell base (ea (.dir 0x00) base) = true) ∧
    (isReg base (ea (.ext 0x03FF) base) = false ∧ isCell base (ea (.ext 0x03FF) base) = true) ∧
    isCell base (ea (.ext 0x0400) base) = true ∧ isReg base (ea (.ext 0x1030) base) = true := by
  decide +kernel

/-- Two bytes stored at the end of the RAM, and across the end of the address space. -/
theorem test_witness_store_wide :
    (Instr.stx (.ext 0x03FE), base.ix) ∈ [(Instr.std (.ext 0x03FE), mk16 base.a base.b),
      (.sts (.ext 0x03FE), base.sp), (.stx (.ext 0x03FE), base.ix), (.sty (.ext 0x03FE), base.iy)] ∧
    (isReg base 0x03FE = false ∧ isReg base (0x03FE + 1) = false ∧ isCell base 0x03FE = true ∧
      isCell base (0x03FE + 1) = true) ∧
    (isReg base 0xFFFF = false ∧ isReg base (0xFFFF + 1) = false) := by
  decide +kernel

/-- A stack in the RAM, at its top and wrapping below address 0. -/
def stackState : State :=
  { pokes [(0x03FE, 0xAB), (0x03FF, 0xCD)] base with sp := 0x03FD }

theorem test_witness_pushes_pulls :
    (isReg stackState (stackState.sp + 1) = false ∧ peek stackState (stackState.sp + 1) = some 0xAB ∧
      peek stackState (stackState.sp + 2) = some 0xCD) ∧
    (isReg edges (0xFFFE + 1) = false ∧ peek edges (0xFFFE + 1) = some 0x9A ∧
      peek edges (0xFFFE + 2) = some 0x12) ∧
    (isReg base base.sp = false ∧ isReg base (base.sp - 1) = false ∧ isCell base base.sp = true ∧
      isCell base (base.sp - 1) = true) := by
  decide +kernel

/-- The operand a statement calls `m` exists, whether it is immediate or in memory. -/
theorem test_witness_operands :
    (operand8 (.imm 0x80) edges).1 = 0x80 ∧ (operand8 (.mem (.dir 0x00)) edges).1 = 0x12 ∧
    (operand16 (.imm 0x8000) edges).1 = 0x8000 ∧ (operand16 (.mem (.ext 0xFFFF)) edges).1 = 0x9A12 ∧
    (readByte (ea (.ext 0x03FF) edges) edges).1 = 0x78 := by
  decide +kernel

theorem test_witness_addition8 : ∃ m, m = (operand8 (.mem (.dir 0x00)) edges).1 := ⟨_, rfl⟩

theorem test_witness_subtraction8 : ∃ m, m = (operand8 (.mem (.indX 0xFF)) edges).1 := ⟨_, rfl⟩

theorem test_witness_comparisons : (∃ m, m = (operand8 (.imm 0x00) edges).1) ∧
    (Instr.cpy (.imm 0), base.iy) ∈ [(Instr.cpd (.imm 0), mk16 base.a base.b), (.cpx (.imm 0), base.ix),
      (.cpy (.imm 0), base.iy)] :=
  ⟨⟨_, rfl⟩, by decide +kernel⟩

theorem test_witness_arithmetic16 :
    ∃ d m, m = (operand16 (.mem (.ext 0xFFFF)) edges).1 ∧ d = mk16 edges.a edges.b :=
  ⟨_, _, rfl, rfl⟩

/-- 99 + 99: both bytes at the end of the decimal range, and 0 + 0. -/
theorem test_witness_decimal_adjust :
    ((0x99#8).toNat / 16 < 10 ∧ (0x99#8).toNat % 16 < 10 ∧ (0#8).toNat / 16 < 10) ∧
    ∃ t, exec (.adda (.imm 0x99)) { base with a := 0x99 } = .next t ∧ (t.a == 0x32) = true :=
  ⟨by decide, next_of_gives (by decide +kernel)⟩

theorem test_witness_increment_decrement : ∃ m, m = (readByte (ea (.ext 0x03FF) edges) edges).1 :=
  ⟨_, rfl⟩

theorem test_witness_negate_complement_test :
    ∃ m, m = (readByte (ea (.indY 0x00) edges) edges).1 := ⟨_, rfl⟩

/-- IX = 0, 1, D and D + 1: either side of each condition. -/
theorem test_witness_multiply_divide :
    (mk16 0xFF 0xFE).toNat = 65534 ∧ (0x0000#16).toNat = 0 ∧ (0x0001#16).toNat ≠ 0 ∧
      (0xFFFE#16).toNat ≤ 65534 ∧ ¬ (0xFFFF#16).toNat ≤ 65534 := by
  decide

theorem test_witness_logic_accumulator : ∃ m, m = (operand8 (.imm 0xFF) base).1 ∧
    (Instr.orab (.imm 0xFF), Acc.b, base.b ||| m) ∈
      [(Instr.anda (.imm 0xFF), Acc.a, base.a &&& m), (.andb (.imm 0xFF), .b, base.b &&& m),
       (.eora (.imm 0xFF), .a, base.a ^^^ m), (.eorb (.imm 0xFF), .b, base.b ^^^ m),
       (.oraa (.imm 0xFF), .a, base.a ||| m), (.orab (.imm 0xFF), .b, base.b ||| m)] :=
  ⟨_, rfl, by decide⟩

theorem test_witness_bit_set_clear : ∃ m, m = (readByte (ea (.dir 0x00) edges) edges).1 := ⟨_, rfl⟩

theorem test_witness_shifts8 : ∃ (m : Byte) (f : Nat → Nat) (out : Nat → Bool),
    m = (readByte (ea (.indX 0x01) edges) edges).1 ∧
    (Instr.asl (.indX 0x01), Instr.asla, Instr.aslb, f, out) ∈
      [(Instr.asl (.indX 0x01), Instr.asla, Instr.aslb, (fun x => 2 * x % 256),
        (fun x => decide (128 ≤ x)))] :=
  ⟨_, _, _, rfl, List.mem_singleton.mpr rfl⟩

theorem test_witness_shifts16 : ∃ d, d = (mk16 base.a base.b).toNat := ⟨_, rfl⟩

theorem test_witness_simple_branches :
    (let c := base.ccr
     (0x27#8, Instr.beq 0x80, c.z == true) ∈
       [(0x20#8, Instr.bra 0x80, true), (0x21, .brn 0x80, false), (0x24, .bcc 0x80, c.c == false),
        (0x25, .bcs 0x80, c.c == true), (0x27, .beq 0x80, c.z == true), (0x26, .bne 0x80, c.z == false),
        (0x2B, .bmi 0x80, c.n == true), (0x2A, .bpl 0x80, c.n == false),
        (0x29, .bvs 0x80, c.v == true), (0x28, .bvc 0x80, c.v == false)]) ∧
    (base.ccr.z == true) = false ∧ ((Ccr.ofByte 0xD4).z == true) = true := by
  decide

theorem test_witness_comparison_branches :
    (let c := base.ccr
     (Instr.bls 0x7F, c.c || c.z) ∈
       [(Instr.bge 0x7F, c.n == c.v), (.blt 0x7F, c.n != c.v), (.bgt 0x7F, !c.z && c.n == c.v),
        (.ble 0x7F, c.z || c.n != c.v), (.bhi 0x7F, !c.c && !c.z), (.bls 0x7F, c.c || c.z)]) := by
  decide

theorem test_witness_branches_after_compare :
    (∃ t, exec (.cmpa (.imm 0x80)) { base with a := 0x7F } = .next t ∧ (t.ccr.v == true) = true) ∧
    (∃ t, exec (.cpx (.imm 0x8000)) { base with ix := 0x7FFF } = .next t ∧ (t.ccr.v == true) = true) ∧
    (let a := 0x7F#8
     let m := 0x80#8
     (Instr.bcs 0x10, decide (a.toNat < m.toNat)) ∈
       [(Instr.bgt 0x10, decide (m.toInt < a.toInt)), (.bge 0x10, decide (m.toInt ≤ a.toInt)),
        (.beq 0x10, decide (a = m)), (.bne 0x10, decide (a ≠ m)),
        (.ble 0x10, decide (a.toInt ≤ m.toInt)), (.blt 0x10, decide (a.toInt < m.toInt)),
        (.bhi 0x10, decide (m.toNat < a.toNat)), (.bcc 0x10, decide (m.toNat ≤ a.toNat)),
        (.bls 0x10, decide (a.toNat ≤ m.toNat)), (.bcs 0x10, decide (a.toNat < m.toNat))]) :=
  ⟨next_of_gives (by decide +kernel), next_of_gives (by decide +kernel), by decide⟩

/-- The mask $00 has no bit that fails, the mask $01 has one set and, in the next byte, one clear. -/
theorem test_witness_bit_test_branches :
    (∀ k, k < 8 → bit 0x00#8 k = true → bit 0x12#8 k = true) ∧
    (∀ k, k < 8 → bit 0x80#8 k = true → bit 0x80#8 k = true) ∧
    (∃ k, k < 8 ∧ bit 0x80#8 k = true ∧ bit 0x7F#8 k = false) ∧
    (∃ k, k < 8 ∧ bit 0x01#8 k = true ∧ bit 0xFF#8 k = true) :=
  ⟨by decide, by decide, ⟨7, by decide⟩, ⟨0, by decide⟩⟩

theorem test_witness_calls_returns :
    isReg stackState (stackState.sp + 1) = false ∧ peek stackState (stackState.sp + 1) = some 0xAB ∧
      peek stackState (stackState.sp + 2) = some 0xCD := by
  decide +kernel

theorem test_witness_flag_instructions :
    (let c := base.ccr
     (0x01#8, Instr.nop, c) ∈
       [(0x0C#8, Instr.clc, { c with c := false }), (0x0A, .clv, { c with v := false }),
        (0x0D, .sec, { c with c := true }), (0x0B, .sev, { c with v := true }), (0x01, .nop, c)]) := by
  decide

/-- Special test mode, a vector in external memory. -/
def specialState : State :=
  pokes [(0xBFF6, 0xC1), (0xBFF7, 0x23)]
    { base with sys := { base.sys with hprio := 0x66 }, mode := .specialTest }

/-- Vectors in the EEPROM. -/
def vectorState : State :=
  pokes [(0xFFF2, 0xD1), (0xFFF3, 0x23), (0xFFF4, 0xE1), (0xFFF5, 0x23), (0xFFF6, 0xC1), (0xFFF7, 0x23),
    (0xFFF8, 0xF1), (0xFFF9, 0x23), (0xFFFA, 0xA1), (0xFFFB, 0x23), (0xFFFC, 0xA2), (0xFFFD, 0x23),
    (0xFFFE, 0xA3), (0xFFFF, 0x23)] base

theorem test_witness_software_interrupt :
    (∀ a, inFrame vectorState.sp a → isCell vectorState a = true) ∧
    ¬ inFrame vectorState.sp 0xFFF6 ∧ ¬ inFrame vectorState.sp 0xFFF7 ∧
    (vectorState.smod = false ∧ isReg vectorState vectorState.sp = false ∧
      peek vectorState 0xFFF6 = some 0xC1 ∧ peek vectorState 0xFFF7 = some 0x23) ∧
    (specialState.smod = true ∧ peek specialState 0xBFF6 = some 0xC1 ∧
      peek specialState 0xBFF7 = some 0x23) :=
  ⟨frame_all (by decide +kernel), frame_not (by decide), frame_not (by decide), by decide +kernel,
    by decide +kernel⟩

/-- A frame at the top of the RAM. -/
def frameState : State :=
  { pokes [(0x03F7, 0x90), (0x03F8, 2), (0x03F9, 3), (0x03FA, 4), (0x03FB, 5), (0x03FC, 6), (0x03FD, 7),
    (0x03FE, 8), (0x03FF, 9)] base with sp := 0x03F6 }

theorem test_witness_return_from_interrupt :
    ((List.range 9).all fun k => isReg frameState (frameState.sp + BitVec.ofNat 16 (k + 1)) == false &&
      peek frameState (frameState.sp + BitVec.ofNat 16 (k + 1)) ==
        ([0x90, 2, 3, 4, 5, 6, 7, 8, 9] : List Byte)[k]?) = true := by
  decide +kernel

/-- Frames at both ends of the RAM. -/
theorem test_witness_return_undoes_entry :
    (∀ a, inFrame base.sp a → isCell base a = true) ∧
    (∀ a, inFrame { base with sp := 0x0008 }.sp a → isCell base a = true) :=
  ⟨frame_all (by decide +kernel), frame_all (by decide +kernel)⟩

theorem test_witness_wait_stop_test :
    base.ccr.s = true ∧ ({ base with ccr := Ccr.ofByte 0x50 } : State).ccr.s = false ∧
    specialState.smod = true ∧ vectorState.smod = false ∧
    ¬ inFrame vectorState.sp 0xFFF8 ∧ ¬ inFrame vectorState.sp 0xFFF9 ∧
    peek vectorState 0xFFF8 = some 0xF1 ∧ peek vectorState 0xFFF9 = some 0x23 ∧
    (∀ a, inFrame vectorState.sp a → isReg vectorState a = false) := by
  refine ⟨by decide, by decide, by decide +kernel, by decide +kernel, frame_not (by decide),
    frame_not (by decide), by decide +kernel, by decide +kernel, fun a ha => ?_⟩
  simpa using frame_all (p := fun a => !isReg vectorState a) (by decide +kernel) a ha

/-- IRQ low, everything unmasked. -/
def irqState : State :=
  { vectorState with
    ccr := Ccr.ofByte 0x80, env := { vectorState.env with pins := { Pins.initial with irq := false } } }

/-- XIRQ low, unmasked. -/
def xirqState : State :=
  { vectorState with
    ccr := Ccr.ofByte 0x80, env := { vectorState.env with pins := { Pins.initial with xirq := false } } }

/-- The timer overflow and the promoted output compare 1 both requesting. -/
def promotedState : State :=
  { irqState with
    timer := { irqState.timer with tmsk1 := 0x80, tflg1 := 0x80 }
    sys := { irqState.sys with hprio := 0x2B } }

theorem test_witness_interrupt_priority :
    recognise xirqState = some .xirq ∧ recognise irqState = some (.source .irq) ∧
    recognise promotedState = some (.source .oc1) ∧ requests promotedState .irq = true ∧
    (recognise { base with ccr := Ccr.ofByte 0x80 } = none) ∧
    base.sys.hprio.toNat % 16 = 6 ∧ ({ base.sys with hprio := 0x2F } : Sys).hprio.toNat % 16 = 15 := by
  decide +kernel

/-- The hypotheses of `StepTakesInterrupt` in a normal mode with the vector at `w`. -/
def takesHyps (s : State) (r : Request) (w : Word) : Bool :=
  let t := spend 14 { boundary s with inhibit := false }
  resetCause (boundary s) == none && (boundary s).run == .running && recognise (boundary s) == some r &&
    resetCause t == none && w == (if t.smod then r.vector - 0x4000 else r.vector) &&
    ((List.range 9).all fun k => isCell t (t.sp - BitVec.ofNat 16 k) &&
      !isReg t (t.sp - BitVec.ofNat 16 k) && w != t.sp - BitVec.ofNat 16 k &&
      w + 1 != t.sp - BitVec.ofNat 16 k) &&
    (peek t w).isSome && (peek t (w + 1)).isSome

theorem test_witness_step_takes_interrupt :
    takesHyps irqState (.source .irq) 0xFFF2 = true ∧ takesHyps xirqState .xirq 0xFFF4 = true := by
  decide +kernel

/-- A stop that is about to end with an entry: DLY = 0, no reset due, the frame in the RAM. -/
def stopHyps (s : State) : Bool :=
  let n := (boundary s).owed + (if bit (boundary s).sys.option 4 then Config.stopDelay else 0)
  let t := spend 14 { boundary s with run := .running, inhibit := false, owed := n }
  !bit (boundary s).sys.option 4 && resetCause (boundary s) == none &&
    (boundary s).run == .stopped && resetCause t == none && !t.smod &&
    (List.range 9).all fun k => isCell t (t.sp - BitVec.ofNat 16 k)

theorem test_witness_wait_and_stop_end :
    (let s : State := { base with run := .waiting }
     resetCause (boundary s) = none ∧ (boundary s).run = .waiting ∧ recognise (boundary s) = none) ∧
    (let s : State := { xirqState with run := .waiting }
     resetCause (boundary s) = none ∧ (boundary s).run = .waiting ∧
       recognise (boundary s) = some .xirq ∧
       resetCause (spend 2 { boundary s with inhibit := false }) = none ∧
       peek (spend 2 { boundary s with inhibit := false }) 0xFFF4 = some 0xE1 ∧
       peek (spend 2 { boundary s with inhibit := false }) 0xFFF5 = some 0x23) ∧
    (let s : State := { base with run := .stopped }
     resetCause (boundary s) = none ∧ (boundary s).run = .stopped ∧
       (boundary s).env.pins.xirq = true ∧ (boundary s).ccr.i = true) ∧
    (let s : State := { base with run := .stopped, ccr := Ccr.ofByte 0x00 }
     (boundary s).run = .stopped ∧ (boundary s).env.pins.xirq = true ∧ irqRequested (boundary s) = false) ∧
    (let s : State := { xirqState with
      run := .stopped, ccr := Ccr.ofByte 0x00, sys := { xirqState.sys with option := 0x00 } }
     stopHyps s = true ∧ (boundary s).env.pins.xirq = false ∧ (boundary s).ccr.x = false) ∧
    (let s : State := { irqState with
      run := .stopped, ccr := Ccr.ofByte 0x00, sys := { irqState.sys with option := 0x00 } }
     stopHyps s = true ∧ (boundary s).env.pins.xirq = true ∧ (boundary s).ccr.i = false ∧
       irqRequested (boundary s) = true) ∧
    (let s : State := { xirqState with run := .stopped, ccr := Ccr.ofByte 0x40 }
     (boundary s).run = .stopped ∧ (boundary s).env.pins.xirq = false ∧ (boundary s).ccr.x = true) := by
  decide +kernel

/-- A reset in each mode: single-chip, expanded, bootstrap, special test. -/
theorem test_witness_reset_registers :
    (let s (modb moda : Bool) : State :=
      takeReset .pin { base with env := { base.env with
        pins := { Pins.initial with modb := modb, moda := moda } } }
     (s true false).mode = .singleChip ∧ (s true false).mda = false ∧ (s true true).mode = .expanded ∧
       (s false false).mode = .bootstrap ∧ (s false true).mode = .specialTest) := by
  decide +kernel

/-- The reset pin low. -/
def pinState : State :=
  { vectorState with env := { vectorState.env with pins := { Pins.initial with reset := false } } }

theorem test_witness_reset_at_once :
    (let s := pinState
     (boundary s).env.pins.reset = false ∧ resetCause (boundary s) = some .pin ∧
       peek (takeReset .pin (boundary s)) 0xFFFE = some 0xA3 ∧
       peek (takeReset .pin (boundary s)) 0xFFFF = some 0x23) ∧
    (let s : State := { vectorState with clockFail := true, copFail := true }
     (boundary s).env.pins.reset = true ∧ (boundary s).clockFail = true ∧
       resetCause (boundary s) = some .clockMonitor ∧
       peek (takeReset .clockMonitor (boundary s)) 0xFFFC = some 0xA2) ∧
    (let s : State := { vectorState with copFail := true }
     (boundary s).clockFail = false ∧ (boundary s).copFail = true ∧
       resetCause (boundary s) = some .cop ∧
       peek (takeReset .cop (boundary s)) 0xFFFA = some 0xA1) ∧
    (base.env.pins.reset = true ∧ base.clockFail = false ∧ base.copFail = false) := by
  decide +kernel

/-- A COP failure in the cycles of an instruction, of the illegal opcode trap, of an entry, of the end of a wait
and of the two ends of a stop. -/
theorem test_witness_reset_in_cycles :
    (let s := copState vectorState
     let u : State := { boundary s with inhibit := false }
     resetCause (boundary s) = none ∧ u.run = .running ∧ recognise (boundary s) = none ∧
       decode (fetch u).1 = .ok (.ldaa (.imm 0x80), []) ∧ resetCause (spend 2 (fetch u).2) = some .cop) ∧
    (let s := pokes [(0x0100, 0x41)] (copState vectorState)
     let u : State := { boundary s with inhibit := false }
     resetCause (boundary s) = none ∧ recognise (boundary s) = none ∧
       decode (fetch u).1 = .error (.illegalOpcode .p1 0x41) ∧
       resetCause (spend 14 (fetch u).2) = some .cop) ∧
    (let s := copState xirqState
     let u : State := { boundary s with inhibit := false }
     resetCause (boundary s) = none ∧ u.run = .running ∧ recognise (boundary s) = some .xirq ∧
       resetCause (spend 14 u) = some .cop) ∧
    (let s := { copState xirqState with run := .waiting }
     let u : State := { boundary s with inhibit := false }
     resetCause (boundary s) = none ∧ u.run = .waiting ∧ recognise (boundary s) = some .xirq ∧
       resetCause (spend 2 u) = some .cop) ∧
    (let s := { copState xirqState with run := .stopped }
     let u : State := { boundary s with inhibit := false }
     resetCause (boundary s) = none ∧ u.run = .stopped ∧ u.env.pins.xirq = false ∧ u.ccr.x = false ∧
       bit u.sys.option 4 = false ∧
       resetCause (spend 14 { u with run := .running, owed := u.owed + 0 }) = some .cop) ∧
    (let s := { copState irqState with run := .stopped }
     let u : State := { boundary s with inhibit := false }
     resetCause (boundary s) = none ∧ u.env.pins.xirq = true ∧ u.ccr.i = false ∧ irqRequested u = true ∧
       resetCause (spend 14 { u with run := .running, owed := u.owed + 0 }) = some .cop) := by
  decide +kernel

theorem test_witness_flag_clearing :
    resolve base 0x1023 = .reg 0x23 ∧ resolve base 0x1025 = .reg 0x25 ∧ resolve base 0x102E = .reg 0x2E ∧
    resolve base 0x102F = .reg 0x2F ∧ resolve base 0x1029 = .reg 0x29 ∧ resolve base 0x102A = .reg 0x2A ∧
    resolve base 0x1028 = .reg 0x28 := by
  decide +kernel

/-- Each prescaler value, at the first and the last phase; TCNT about to wrap and about to reach each compare;
the gate of the pulse accumulator open, at both ends of its phase, and closed. -/
theorem test_witness_timers_count :
    ([(0, 1), (1, 4), (2, 8), (3, 16)] : List (Nat × Nat)).all (fun x =>
      let t := { base.timer with tmsk2 := BitVec.ofNat 8 x.1 }
      decide (t.tmsk2.toNat % 4 = x.1) && decide (0 < max 1 (x.2 - t.phase)) &&
        decide (max 1 (x.2 - (x.2 - 1)) = 1)) = true ∧
    ({ base.timer with tcnt := 0xFFFF } : Timer).tcnt = 0xFFFF ∧
    ({ base.timer with tcnt := 0xFFFE } : Timer).tcnt + 1 = base.timer.toc1 ∧
    (base.timer.toc1 = base.timer.toc2 ∧ base.timer.toc2 = base.timer.toc3 ∧
      base.timer.toc3 = base.timer.toc4 ∧ base.timer.toc4 = base.timer.ti4o5) ∧
    (3, 0, base.timer.ti4o5, !bit base.timer.pactl 2) ∈
      [(7, 0, base.timer.toc1, true), (3, base.timer.tctl1.toNat % 4, base.timer.ti4o5,
        !bit base.timer.pactl 2)] ∧
    (let gate (pactl : Byte) : Bool := bit pactl 6 && bit pactl 5 && (bit base.env.pins.pa 7 != bit pactl 4)
     gate 0x70 = true ∧ gate 0x60 = false ∧ base.timer.paPhase < 63 ∧
       63 ≤ ({ base.timer with paPhase := 63 } : Timer).paPhase) ∧
    resolve base 0x103A = .reg 0x3A ∧ resolve base 0x100B = .reg 0x0B ∧
    (writeByte 0x103A 0x55 base).cop.armed = true ∧ base.cop.armed = false := by
  decide +kernel

/-- Inside the window at its last cycle, just after it, and after a first write. -/
theorem test_witness_write_once :
    base.smod = false ∧ resolve base 0x1039 = .reg 0x39 ∧ resolve base 0x103D = .reg 0x3D ∧
    resolve base 0x1024 = .reg 0x24 ∧ resolve base 0x1035 = .reg 0x35 ∧
    (let s : State := { base with cycles := 62, owed := 2 }
     s.sys.wroteOption = false ∧ s.sys.wroteInit = false ∧ s.sys.wroteTmsk2 = false ∧
       s.sys.wroteBprot = false ∧ s.cycles + s.owed ≤ 64) ∧
    (let s : State := { base with cycles := 62, owed := 3 }
     64 < s.cycles + s.owed) ∧
    (writeByte 0x1039 0x10 base).sys.wroteOption = true ∧ resolve base 0x1038 = .reg 0x38 ∧
    base.sys.wroteClk4x = false ∧ (writeByte 0x1038 0 base).sys.wroteClk4x = true ∧
    specialState.smod = true ∧ resolve specialState 0x1038 = .reg 0x38 ∧
    resolve specialState 0x103D = .reg 0x3D ∧ resolve specialState 0x1035 = .reg 0x35 := by
  decide +kernel

theorem test_witness_hprio_writes :
    resolve base 0x103C = .reg 0x3C ∧ base.ccr.i = true ∧
    ({ base with ccr := Ccr.ofByte 0x40 } : State).ccr.i = false ∧ base.smod = false ∧
    resolve specialState 0x103C = .reg 0x3C ∧ specialState.smod = true := by
  decide +kernel

/-- The registers that read back, with their writable bits, as the statement lists them. -/
def readBack : List (Nat × Byte) :=
  [(0x01, 0xFF#8), (0x03, 0xFF), (0x07, 0xFF), (0x09, 0x3F), (0x0C, 0xF8), (0x0D, 0xF8),
     (0x16, 0xFF), (0x17, 0xFF), (0x18, 0xFF), (0x19, 0xFF), (0x1A, 0xFF), (0x1B, 0xFF),
     (0x1C, 0xFF), (0x1D, 0xFF), (0x1E, 0xFF), (0x1F, 0xFF), (0x20, 0xFF), (0x21, 0xFF),
     (0x22, 0xFF), (0x26, 0x77), (0x27, 0xFF), (0x28, 0xFF), (0x2B, 0x37), (0x2C, 0xD8),
     (0x2D, 0xFF), (0x30, 0x3F), (0x5C, 0xFF), (0x5D, 0xFF), (0x5E, 0xFC), (0x5F, 0xDF)]

theorem test_witness_register_read_back :
    (readBack.all fun x => resolve base (0x1000 + BitVec.ofNat 16 x.1) == .reg x.1) = true ∧
    resolve base 0x103F = .reg 0x3F ∧ resolve base 0x1008 = .reg 0x08 ∧ resolve base 0x1034 = .reg 0x34 ∧
    resolve base 0x1040 = .reg 0x40 ∧ resolve base 0x105B = .reg 0x5B ∧ resolve base 0x1060 = .reg 0x60 ∧
    resolve base 0x107F = .reg 0x7F ∧ bit ({ base.sys with option := 0x90 } : Sys).option 7 = true ∧
    (0x01, 0xFF#8) ∈ readBack ∧ (0x5F, 0xDF#8) ∈ readBack ∧
    0x0E ∈ [0x0A, 0x0E, 0x0F, 0x10, 0x11, 0x12, 0x13, 0x14, 0x15, 0x29, 0x2E, 0x31, 0x32, 0x33, 0x34,
            0x36, 0x37, 0x3E] ∧
    specialState.smod = true ∧ base.smod = false ∧ base.eelat = false ∧
    base.mda = true ∧ ({ base with sys := { base.sys with hprio := 0x06 } } : State).mda = false ∧
    (6, 1) ∈ [(7, 0), (6, (0x40#8).toNat / 64)] := by
  decide +kernel

/-- A command about to end, in the last byte of the array, unprotected; and in the first, protected. -/
theorem test_witness_eeprom_command :
    let s (off : Nat) (bprot pprog : Byte) : State :=
      { pokes [(0xFE00, 0x55), (0xFFFF, 0x55)] base with
        ee := { bprot := bprot, pprog := pprog, latch := some (.array off, 0x0F) } }
    (resolve (s 511 0 0x03) 0x103B = .reg 0x3B ∧ bit (s 511 0 0x03).ee.pprog 0 = true ∧ 511 < 512 ∧
      (s 511 0 0x03).mem.get .eeprom 511 = some 0x55 ∧ (s 511 0 0x03).ee.protects 511 = false ∧
      bit (s 511 0 0x03).ee.pprog 2 = false) ∧
    ((s 0 0x1F 0x07).mem.get .eeprom 0 = some 0x55 ∧ (s 0 0x1F 0x07).ee.protects 0 = true ∧
      bit (s 0 0x1F 0x07).ee.pprog 2 = true) ∧
    (bit (s 0 0 0x17).ee.pprog 4 = true ∧ bit (s 0 0 0x0F).ee.pprog 3 = true ∧
      bit (s 0 0 0x0F).ee.pprog 4 = false) ∧
    ((s 0 0 0x02).eelat = true ∧ resolve (s 0 0 0x02) 0xFE00 = .mem .eeprom 0 ∧
      resolve (s 0 0 0x02) 0x103F = .reg 0x3F ∧ bit (s 0 0 0x02).ee.pprog 0 = false) ∧
    ({ (s 0 0 0x07) with ee := { (s 0 0 0x07).ee with latch := some (.config, 0) } } : State).ee.latch =
      some (.config, 0) := by
  decide +kernel

/-- The receiver on with SCDR empty and full, off; the transmitter on with a full SCDR, with a break to
send. -/
theorem test_witness_sci_characters :
    base.run ≠ .stopped ∧ ({ base with run := .stopped } : State).run = .stopped ∧
    (let s : Sci := { base.sci with baud := 0x00, sccr2 := 0x09 }
     s.baud.toNat / 16 % 4 = 0 ∧ bit s.sccr2 3 = true ∧ s.frame = none ∧ bit s.sccr2 0 = true) ∧
    (let s : Sci := { base.sci with sccr2 := 0x04 }
     bit s.sccr2 2 = true ∧ bit s.sccr2 1 = false ∧ bit s.scsr 5 = false) ∧
    (let s : Sci := { base.sci with sccr2 := 0x04, scsr := 0xE0, sccr1 := 0x10 }
     bit s.sccr2 2 = true ∧ bit s.scsr 5 = true ∧ bit s.sccr1 4 = true) ∧ bit base.sci.sccr2 2 = false ∧
    (let s : Sci := { base.sci with baud := 0x30, sccr2 := 0x08, tdrFull := true }
     s.baud.toNat / 16 % 4 = 3 ∧ bit s.sccr2 3 = true ∧ s.frame = none ∧ s.preamble = false ∧
       s.tdrFull = true ∧ bit s.sccr2 0 = false) ∧
    (let s : Sci := { base.sci with frame := some (.char 0x41 none), left := 1 }
     s.frame = some (.char 0x41 none) ∧ 0 < s.left ∧ s.left = 1 ∧ bit s.sccr2 3 = false ∧
       bit s.sccr2 0 = false ∧ s.preamble = false ∧ s.tdrFull = false) ∧
    (let s : Sci := { base.sci with sccr1 := 0x08, sccr2 := 0x06 }
     bit s.sccr2 2 = true ∧ bit s.sccr2 1 = true ∧ bit s.sccr1 3 = true ∧
       (if bit s.sccr1 4 then true else bit (0x80#8) 7) = true ∧
       (if bit s.sccr1 4 then true else bit (0x7F#8) 7) = false) ∧ bit base.sci.sccr1 3 = false ∧
    (let s : Sci := { base.sci with frame := some .breakCode, left := 1, sccr2 := 0x08, preamble := true }
     s.frame = some .breakCode ∧ s.left = 1 ∧ bit s.sccr2 3 = true ∧ bit s.sccr2 0 = false ∧
       s.preamble = true) ∧
    resolve base 0x102F = .reg 0x2F ∧ resolve base 0x102D = .reg 0x2D ∧ bit base.sci.sccr2 3 = false ∧
    bit (0x08#8) 3 = true := by
  decide +kernel

/-- IRQE set, PA2 capturing both edges, the pulse accumulator in event mode, the SPI a master. -/
def pinBase : State :=
  { base with
    sys := { base.sys with option := 0x30 }, timer := { base.timer with tctl2 := 0x30, pactl := 0x40 }
    spi := { base.spi with spcr := 0x54 }
    env := { base.env with pins := { Pins.initial with pa := 0x80, pd := 0x20 } } }

theorem test_witness_pin_events :
    (let s := pinBase
     let p : Pins := { Pins.initial with irq := false, pa := 0x04 }
     bit s.sys.option 5 = true ∧ s.env.pins.irq = true ∧ p.irq = false ∧
       s.timer.tctl2.toNat / 16 % 4 = 3 ∧ bit s.env.pins.pa 2 = false ∧ bit p.pa 2 = true ∧
       bit s.env.pins.pa 7 ≠ bit s.timer.pactl 4 ∧ bit p.pa 7 = bit s.timer.pactl 4 ∧
       bit s.timer.pactl 6 = true ∧ bit s.timer.pactl 5 = false ∧
       bit s.env.pins.pd 5 = true ∧ bit p.pd 5 = false ∧ bit s.ports.ddrd 5 = false ∧
       bit s.spi.spcr 4 = true ∧ s.run ≠ .stopped) ∧
    ((0x20#8).toNat / 16 % 4 = 2 ∧ (0x10#8).toNat / 16 % 4 = 1) ∧
    ((if bit (0x04#8) 2 then (0xC0#8).toNat / 64 else 0) = 3 ∧
      (if bit (0x00#8) 2 then (0xC0#8).toNat / 64 else 0) = 0) ∧
    (bit base.spi.spcr 4 = false ∧ bit base.timer.pactl 6 = false ∧
      ({ pinBase with run := .stopped } : State).run = .stopped) ∧
    (let p : Pins := { Pins.initial with pa := 0x80 }
     bit base.sys.option 5 = false ∧ bit p.pa 7 ≠ bit pinBase.timer.pactl 4 ∧
       bit base.env.pins.pa 2 = bit p.pa 2 ∧ base.timer.tctl2.toNat / 16 % 4 = 0) ∧
    (bit (0x04#8) 2 = true ∧ bit (0x00#8) 2 = false) ∧
    (base.run ≠ .stopped ∧ (advance base.owed { base with owed := 0 }).env.inputs = [] ∧
      ({ base.env with inputs := [.idle, .sciIdle] } : Env).inputs = .idle :: [.sciIdle]) := by
  decide +kernel

theorem test_witness_transfers_complete :
    0 < ({ base.spi with left := 1 } : Spi).left ∧ resolve base 0x1030 = .reg 0x30 ∧
    bit base.sys.option 7 = false ∧ resolve base 0x102A = .reg 0x2A ∧ base.spi.left = 0 ∧
    (0xFF#8).toNat % 4 = 3 ∧ (0x54#8).toNat % 4 = 0 ∧
    (let s : State := { base with spi := { base.spi with spcr := 0x44 } }
     s.run ≠ .stopped ∧ bit s.spi.spcr 6 = true ∧ bit s.spi.spcr 4 = false ∧ bit s.env.pins.pd 5 = false) ∧
    bit base.spi.spcr 6 = false ∧
    (let s := writeByte 0x1030 0x20 { base with sys := { base.sys with option := 0x90 } }
     bit s.sys.option 7 = true ∧ s.adc.active = true ∧ s.adc.idx = 0 ∧ s.adc.left = 32) ∧
    (let ch (adctl : Byte) (i : Nat) : Nat :=
      if bit adctl 4 then adctl.toNat % 16 / 4 * 4 + i else adctl.toNat % 16
     ch 0x00 0 < 8 ∧ ch 0x07 3 < 8 ∧ ch 0x14 3 < 8 ∧ ch 0x1C 0 = 12 ∧ ch 0x0D 3 = 13 ∧ ch 0x1F 2 = 14) := by
  decide +kernel

end Sys2Proof.Tests
end

section
/-! SUPPORT.
Reads of memory as rules: where an address leads, what a read answers where memory can be
looked at, and that it changes nothing but, at a register, the serial units. Settles O12.
-/

namespace Sys2Proof.Proofs

open Sys2Proof.Machine Sys2Proof.Laws

/-! ### The map -/

/-- The first address of the EEPROM, by its page (10 R87, 60 R452). -/
theorem eepromBase_eq_page (s : State) :
    eepromBase s = (if s.mda then s.sys.config.toNat / 16 else 0xF) * 0x1000 + 0xE00 := by
  unfold eepromBase
  split <;> rfl

/-- The map by the page of an address and its offset in the page (20 R141). -/
theorem resolve_by_page (s : State) (a : Word) :
    resolve s a =
      if a.toNat / 4096 = s.sys.init.toNat % 16 ∧ a.toNat % 4096 < 128 then .reg (a.toNat % 4096)
      else if a.toNat / 4096 = s.sys.init.toNat / 16 ∧ a.toNat % 4096 < 1024 then
        .mem .ram (a.toNat % 4096)
      else if s.rboot = true ∧ a.toNat / 4096 = 0xB ∧ 0xF00 ≤ a.toNat % 4096 then
        .mem .boot (a.toNat % 4096 - 0xF00)
      else if s.eeon = true ∧ a.toNat / 4096 = (if s.mda then s.sys.config.toNat / 16 else 0xF) ∧
          0xE00 ≤ a.toNat % 4096 then .mem .eeprom (a.toNat % 4096 - 0xE00)
      else if s.mda = true ∧ s.env.extPresent = true then .mem .ext a.toNat
      else .nothing := by
  have boot : (0xBF00 ≤ a.toNat ∧ a.toNat ≤ 0xBFFF) ↔
      (a.toNat / 4096 = 0xB ∧ 0xF00 ≤ a.toNat % 4096) := by omega
  have eeprom (p : Nat) : (p * 0x1000 + 0xE00 ≤ a.toNat ∧ a.toNat ≤ p * 0x1000 + 0xE00 + 0x1FF) ↔
      (a.toNat / 4096 = p ∧ 0xE00 ≤ a.toNat % 4096) := by omega
  unfold resolve
  rw [eepromBase_eq_page]
  generalize (if s.mda then s.sys.config.toNat / 16 else 0xF) = page
  simp only [boot, eeprom, show Config.ramSize = 1024 from rfl]
  split_ifs with _ _ hboot heeprom
  · rfl
  · rfl
  · rw [show a.toNat - 0xBF00 = a.toNat % 4096 - 0xF00 by omega]
  · rw [show a.toNat - (page * 0x1000 + 0xE00) = a.toNat % 4096 - 0xE00 by omega]
  · rfl
  · rfl

/-! ### What a read answers -/

/-- A read of an address that leads to a register is the read of the register (20 R141). -/
theorem readByte_of_reg {s : State} {a : Word} {off : Nat} (h : resolve s a = .reg off) :
    readByte a s = readReg off s := by
  simp only [readByte, h]

/-- A register with no open bit answers what it shows. -/
theorem readReg_value {s : State} {off : Nat} (h : (regValue s off).2 = 0) :
    (readReg off s).1 = (regValue s off).1 := by
  simp only [readReg, h, if_true]

/-- A byte that can be looked at is what a read answers. -/
theorem readByte_of_peek {s : State} {a : Word} {v : Byte} (h : peek s a = some v) :
    (readByte a s).1 = v := by
  unfold peek at h
  cases hr : resolve s a with
  | reg off =>
    simp only [hr] at h
    split at h
    · rename_i h0
      rw [readByte_of_reg hr, readReg_value h0]
      exact Option.some.inj h
    · cases h
  | mem r off =>
    cases r with
    | ram =>
      cases hc : s.mem.get .ram off <;> simp_all [readByte, readArray, openByte]
    | eeprom =>
      cases he : s.eelat <;> simp_all [readByte, readArray]
    | boot =>
      cases hc : s.mem.get .boot off <;> simp_all [readByte, readArray, openByte]
    | ext => simp_all [readByte, readArray]
  | nothing => simp [hr] at h

/-- A 16-bit read but of TCNT is two byte reads, the high byte first (00 R13, 20 R148). -/
theorem read16_of_not_tcnt {s : State} {a : Word} (h : resolve s a ≠ .reg 0x0E) :
    read16 a s = (mk16 (readByte a s).1 (readByte (a + 1) (readByte a s).2).1,
      (readByte (a + 1) (readByte a s).2).2) := by
  simp only [read16, h, if_false]

/-- A 16-bit read of TCNT is one count (60 R470). -/
theorem read16_of_tcnt {s : State} {a : Word} (h : resolve s a = .reg 0x0E) :
    read16 a s = (s.tcnt16, s) := by
  simp only [read16, h, if_true]

/-- A 16-bit read pairs the bytes that can be looked at when each is read. -/
theorem read16_of_peek {s : State} {a : Word} {h l : Byte} (hn : resolve s a ≠ .reg 0x0E)
    (hh : peek s a = some h) (hl : peek (readByte a s).2 (a + 1) = some l) :
    (read16 a s).1 = mk16 h l := by
  rw [read16_of_not_tcnt hn, readByte_of_peek hh, readByte_of_peek hl]

/-- An address outside the register block leads to no register. -/
theorem resolve_ne_reg {s : State} {a : Word} (h : isReg s a = false) (off : Nat) :
    resolve s a ≠ .reg off := by
  intro hr
  simp [isReg, hr] at h

/-- After a read outside the register block every byte looks as before. -/
theorem peek_readByte {s : State} {a : Word} (h : isReg s a = false) (x : Word) :
    peek (readByte a s).2 x = peek s x :=
  peek_after_read (readByte_reads a s) (readByte_serial a s h) x

/-! ### What a read leaves unchanged -/

/-- A read keeps the CPU registers. -/
theorem regs_of_reads {s t : State} (h : ReadChanges s t) : regs t = regs s :=
  h.field regs fun _ _ _ _ _ => rfl

/-- What only reads is seen in the serial units only. -/
theorem onlyRead_of_reads {s t : State} {reg : Bool} (h : ReadChanges s t)
    (hs : reg = false → serialSame s t) : onlyRead s t reg := by
  obtain ⟨sci, spi, draws, owed, rfl⟩ := h
  exact ⟨memorySame_of rfl rfl rfl rfl fun _ _ _ _ _ => rfl, by simp [devicesSame], rfl, hs⟩

theorem readByte_onlyRead (a : Word) (s : State) : onlyRead s (readByte a s).2 (isReg s a) :=
  onlyRead_of_reads (readByte_reads a s) (readByte_serial a s)

/-- A byte read keeps the map. -/
@[simp] theorem isReg_readByte (a : Word) (s : State) (x : Word) :
    isReg (readByte a s).2 x = isReg s x :=
  isReg_congr (readByte_sys a s) (readByte_env a s) x

theorem read16_onlyRead (a : Word) (s : State) :
    onlyRead s (read16 a s).2 (isReg s a || isReg s (a + 1)) := by
  by_cases hr : resolve s a = .reg 0x0E
  · rw [read16_of_tcnt hr]
    exact onlyRead_of_reads (.refl s) fun _ => ⟨rfl, rfl⟩
  · rw [read16_of_not_tcnt hr]
    have second := readByte_onlyRead (a + 1) (readByte a s).2
    rw [isReg_readByte] at second
    exact onlyRead_trans (readByte_onlyRead a s) second

/-! ### TCNT -/

/-- Cycles keep the count that a 16-bit read of TCNT returns. -/
theorem advance_tcnt16 (n : Nat) (s : State) : (advance n s).tcnt16 = s.tcnt16 := by
  obtain ⟨_, _, _, _, _, _, _, _, h⟩ := advance_changes n s
  rw [h]

/-- A 16-bit read of TCNT returns the count two cycles before the end (70 R550). -/
theorem spend_tcnt16 (n : Nat) (s : State) :
    (spend n s).tcnt16 = (advance (s.owed + n - 2) { s with owed := 0 }).timer.tcnt := by
  simp only [spend, advance_tcnt16]

/-- Settles O12: the map by pages, and the rules for what a read answers and leaves unchanged. -/
theorem readsTellMemory : Obligations.ReadsTellMemory := by
  intro s a
  refine ⟨?map, fun _ => readByte_of_reg, fun _ => readByte_of_peek, ?pair, ?plain, ?looked,
    read16_of_tcnt, fun n => spend_tcnt16 n s, regs_of_reads (readByte_reads a s), readByte_ccr a s,
    regs_of_reads (read16_reads a s), read16_ccr a s, readByte_onlyRead a s, read16_onlyRead a s⟩
  case map =>
    rintro _ _ rfl rfl
    exact resolve_by_page s a
  case pair =>
    rintro _ _ hn rfl rfl
    exact read16_of_not_tcnt hn
  case plain =>
    intro h l hr hh hl
    exact read16_of_peek (resolve_ne_reg hr _) hh (by rw [peek_readByte hr, hl])
  case looked =>
    intro h l hn hh hl
    exact read16_of_peek hn hh hl

end Sys2Proof.Proofs
end

section
/-! SUPPORT.
Writes of memory and the stack operations as rules: where a byte lands, what two writes leave, and what a
push or a pull does. Settles O20.
-/

namespace Sys2Proof.Proofs

open Sys2Proof.Machine Sys2Proof.Laws

/-! ### One write -/

/-- A write outside the register block keeps the map. -/
theorem writeByte_keeps_map {s : State} {a : Word} (v : Byte) (h : isReg s a = false) :
    (writeByte a v s).sys = s.sys ∧ (writeByte a v s).env = s.env :=
  ⟨(writeByte_mem_frame a v s h).1, writeByte_env a v s⟩

/-- A write outside the register block leaves every other byte as it was. -/
theorem writeByte_memorySame {s : State} {a : Word} (v : Byte) (h : isReg s a = false) :
    memorySame s (writeByte a v s) (· = a) := by
  obtain ⟨hsys, hpprog, _⟩ := writeByte_mem_frame a v s h
  refine memorySame_of hsys (writeByte_env a v s) hpprog (writeByte_ramEpoch a v s) ?_
  intro x hx r off hr
  exact writeByte_cells a v s r off (fun hra => hx (resolve_inj hr hra.symm))
    fun _ hra => resolve_ne_reg h 0x3B hra.symm

/-- A byte put inside an array is read back. -/
theorem get_put_self {r : Region} {off : Nat} (m : Memory) (v : Byte) (h : off < r.size) :
    (m.put r off v).get r off = some v := by
  rw [get_put _ _ _ _ _ _ h]
  simp

/-- A byte written to the RAM or to external memory can be looked at there. -/
theorem peek_writeByte {s : State} {a : Word} (v : Byte) (h : isCell s a = true) :
    peek (writeByte a v s) a = some v := by
  obtain ⟨hsys, henv⟩ := writeByte_keeps_map v (isCell_notReg h)
  have hmap := resolve_congr hsys henv a
  unfold isCell at h
  split at h
  next off hr =>
    have stored : (writeByte a v s).mem.get .ram off = some v := by
      simpa [writeByte, hr, writeArray] using get_put_self s.mem v (resolve_ram_lt hr)
    simp [peek, hmap.trans hr, stored]
  next off hr =>
    have stored : (writeByte a v s).mem.get .ext off = some v := by
      simpa [writeByte, hr, writeArray] using get_put_self s.mem v (resolve_ext_lt hr)
    simp [peek, hmap.trans hr, stored]
  next => cases h

/-- Where a write puts its byte (20 R142 to R147). -/
theorem writeByte_landed (a : Word) (v : Byte) (s : State) : landed a v s (writeByte a v s) := by
  refine ⟨writeByte_cells a v s, fun h => ?_, peek_writeByte v⟩
  obtain ⟨_, _, hdev, hser⟩ := writeByte_mem_frame a v s h
  exact ⟨writeByte_memorySame v h, hdev, hser⟩

/-- What a write has stored does not depend on the CPU registers. -/
theorem storedAt_of_rest {a : Word} {v : Byte} {s t : State} (h : restAs (writeByte a v s) t) :
    storedAt a v s t := by
  refine ⟨h, ?_⟩
  unfold restAs at h
  rw [h]
  exact writeByte_landed a v s

/-! ### Two writes -/

theorem memorySame_trans {s t u : State} {V W : Word → Prop} (h : memorySame s t V)
    (k : memorySame t u W) : memorySame s u (fun x => V x ∨ W x) := by
  intro x hx hr
  obtain ⟨hV, hW⟩ := not_or.1 hx
  obtain ⟨hr', hp⟩ := h x hV hr
  obtain ⟨hr'', hp'⟩ := k x hW hr'
  exact ⟨hr'', hp'.trans hp⟩

theorem devicesSame_trans {s t u : State} (h : devicesSame s t) (k : devicesSame t u) :
    devicesSame s u := by
  simp_all [devicesSame]

theorem serialSame_trans {s t u : State} (h : serialSame s t) (k : serialSame t u) :
    serialSame s u :=
  ⟨k.1.trans h.1, k.2.trans h.2⟩

/-- Where neither address is a register, two writes change those two bytes only. -/
theorem two_writes_frame {s : State} {a b : Word} (v w : Byte) (ha : isReg s a = false)
    (hb : isReg s b = false) :
    memorySame s (writeByte b w (writeByte a v s)) (fun x => x = a ∨ x = b) ∧
      devicesSame s (writeByte b w (writeByte a v s)) ∧
      serialSame s (writeByte b w (writeByte a v s)) := by
  obtain ⟨hsys, henv⟩ := writeByte_keeps_map v ha
  have hb' : isReg (writeByte a v s) b = false := by rw [isReg_congr hsys henv, hb]
  obtain ⟨_, first, _⟩ := writeByte_landed a v s
  obtain ⟨_, second, _⟩ := writeByte_landed b w (writeByte a v s)
  obtain ⟨hmem, hdev, hser⟩ := first ha
  obtain ⟨hmem', hdev', hser'⟩ := second hb'
  exact ⟨memorySame_trans hmem hmem', devicesSame_trans hdev hdev', serialSame_trans hser hser'⟩

/-- Where both addresses keep what is written, each shows its byte after two writes. -/
theorem two_writes_peek {s : State} {a b : Word} (v w : Byte) (hne : a ≠ b) (ha : isCell s a = true)
    (hb : isCell s b = true) :
    peek (writeByte b w (writeByte a v s)) a = some v ∧
      peek (writeByte b w (writeByte a v s)) b = some w := by
  obtain ⟨hsys, henv⟩ := writeByte_keeps_map v (isCell_notReg ha)
  have hb' : isCell (writeByte a v s) b = true := by rw [isCell_congr hsys henv, hb]
  have ha' : isReg (writeByte a v s) a = false := by
    rw [isReg_congr hsys henv, isCell_notReg ha]
  obtain ⟨_, kept⟩ := writeByte_memorySame w (isCell_notReg hb') a hne ha'
  exact ⟨kept.trans (peek_writeByte v ha), peek_writeByte w hb'⟩

/-- What a push of a word has stored does not depend on the CPU registers. -/
theorem pushed16At_of_rest {sp v : Word} {s t : State}
    (h : restAs (writeByte (sp - 1) (hi8 v) (writeByte sp (lo8 v) s)) t) : pushed16At sp v s t := by
  refine ⟨h, ?_⟩
  unfold restAs at h
  rw [h]
  exact ⟨cellsSame_trans (writeByte_cells _ _ s) (writeByte_cells _ _ _), two_writes_frame _ _,
    two_writes_peek _ _ (by bv_omega)⟩

/-! ### Pushes -/

theorem push8_storedAt (v : Byte) (s : State) : storedAt s.sp v s (push8 v s) :=
  storedAt_of_rest rfl

/-- A push of a word is a write of its low byte at SP, one of its high byte below, and SP lowered. -/
theorem push16_eq (v : Word) (s : State) :
    push16 v s = { writeByte (s.sp - 1) (hi8 v) (writeByte s.sp (lo8 v) s) with sp := s.sp - 2 } := by
  have hsp : s.sp - 1 - 1 = s.sp - 2 := by bv_omega
  simp only [push16, push8, writeByte_setSp, writeByte_sp, hsp]

theorem push16_pushed16At (v : Word) (s : State) : pushed16At s.sp v s (push16 v s) := by
  rw [push16_eq]
  exact pushed16At_of_rest rfl

theorem regs_push8 (v : Byte) (s : State) : regs (push8 v s) = { regs s with sp := s.sp - 1 } := by
  simp [regs]

theorem regs_push16 (v : Word) (s : State) : regs (push16 v s) = { regs s with sp := s.sp - 2 } := by
  simp [push16_eq, regs]

/-! ### Pulls -/

theorem pull8_reads (s : State) : ReadChanges { s with sp := s.sp + 1 } (pull8 s).2 :=
  readByte_reads _ _

theorem regs_pull8 (s : State) : regs (pull8 s).2 = { regs s with sp := s.sp + 1 } :=
  regs_of_reads (pull8_reads s)

/-- A pull answers the byte that memory shows above SP. -/
theorem pull8_of_peek {s : State} {v : Byte} (h : peek s (s.sp + 1) = some v) : (pull8 s).1 = v :=
  readByte_of_peek (s := { s with sp := s.sp + 1 }) h

theorem pull8_onlyRead (s : State) : onlyRead s (pull8 s).2 (isReg s (s.sp + 1)) :=
  readByte_onlyRead (s.sp + 1) { s with sp := s.sp + 1 }

/-- A pull keeps the map. -/
theorem isReg_pull8 (s : State) (x : Word) : isReg (pull8 s).2 x = isReg s x :=
  isReg_congr (pull8_sys s) (pull8_env s) x

/-- After a pull from outside the register block every byte looks as before. -/
theorem peek_pull8 {s : State} (h : isReg s (s.sp + 1) = false) (x : Word) :
    peek (pull8 s).2 x = peek s x :=
  peek_readByte (s := { s with sp := s.sp + 1 }) h x

theorem pull8_sp_succ (s : State) : (pull8 s).2.sp + 1 = s.sp + 2 := by
  rw [pull8_sp]
  bv_omega

theorem regs_pull16 (s : State) : regs (pull16 s).2 = { regs s with sp := s.sp + 2 } := by
  have hsp : s.sp + 1 + 1 = s.sp + 2 := by bv_omega
  simp only [regs, pull16_a, pull16_b, pull16_ix, pull16_iy, pull16_sp, pull16_pc, pull16_run,
    pull16_inhibit, hsp]

/-- A pull of a word answers the two bytes that memory shows above SP, high byte first. -/
theorem pull16_of_peek {s : State} {h l : Byte} (hr : isReg s (s.sp + 1) = false)
    (hh : peek s (s.sp + 1) = some h) (hl : peek s (s.sp + 2) = some l) :
    (pull16 s).1 = mk16 h l := by
  have low : (pull8 (pull8 s).2).1 = l :=
    pull8_of_peek (by rw [pull8_sp_succ, peek_pull8 hr, hl])
  simp only [pull16, pull8_of_peek hh, low]

theorem pull16_onlyRead (s : State) :
    onlyRead s (pull16 s).2 (isReg s (s.sp + 1) || isReg s (s.sp + 2)) := by
  have second := pull8_onlyRead (pull8 s).2
  rw [pull8_sp_succ, isReg_pull8] at second
  exact onlyRead_trans (pull8_onlyRead s) second

/-- Writing CPU registers after a read leaves what the read left of everything else. -/
theorem becomes_of_rest {s u t : State} {g : Regs} {reg : Bool} (hrest : restAs u t)
    (hread : onlyRead s u reg) (hregs : regs t = g) (hccr : t.ccr = s.ccr) :
    becomes s t g s.ccr reg := by
  refine ⟨hregs, hccr, ?_⟩
  unfold restAs at hrest
  rw [hrest]
  exact hread

/-- Settles O20: each push and each pull by the rules of its stack operation. -/
theorem pushesPulls : Obligations.PushesPulls := by
  intro s
  refine ⟨?psha, ?pshb, ?pshx, ?pshy, ?pula, ?pulb, ?pulx, ?puly⟩
  case psha => exact ⟨_, rfl, regs_push8 _ s, push8_ccr _ s, push8_storedAt _ s⟩
  case pshb => exact ⟨_, rfl, regs_push8 _ s, push8_ccr _ s, push8_storedAt _ s⟩
  case pshx => exact ⟨_, rfl, regs_push16 _ s, push16_ccr _ s, push16_pushed16At _ s⟩
  case pshy => exact ⟨_, rfl, regs_push16 _ s, push16_ccr _ s, push16_pushed16At _ s⟩
  case pula =>
    have hregs := congrArg (fun g : Regs => g.withAcc .a (pull8 s).1) (regs_pull8 s)
    exact ⟨_, rfl, becomes_of_rest (u := (pull8 s).2) rfl (pull8_onlyRead s) hregs (pull8_ccr s),
      fun _ => pull8_of_peek⟩
  case pulb =>
    have hregs := congrArg (fun g : Regs => g.withAcc .b (pull8 s).1) (regs_pull8 s)
    exact ⟨_, rfl, becomes_of_rest (u := (pull8 s).2) rfl (pull8_onlyRead s) hregs (pull8_ccr s),
      fun _ => pull8_of_peek⟩
  case pulx =>
    have hregs := congrArg (fun g : Regs => g.withWide .x (pull16 s).1) (regs_pull16 s)
    exact ⟨_, rfl, becomes_of_rest (u := (pull16 s).2) rfl (pull16_onlyRead s) hregs (pull16_ccr s),
      fun _ _ => pull16_of_peek⟩
  case puly =>
    have hregs := congrArg (fun g : Regs => g.withWide .y (pull16 s).1) (regs_pull16 s)
    exact ⟨_, rfl, becomes_of_rest (u := (pull16 s).2) rfl (pull16_onlyRead s) hregs (pull16_ccr s),
      fun _ _ => pull16_of_peek⟩

end Sys2Proof.Proofs
end

section
/-! SUPPORT.
Fetching and the step as rules: the bytes fetched from memory that can be looked at, how many bytes a decoded
instruction takes, and which way a step goes. Settles O5.
-/

namespace Sys2Proof.Proofs

open Sys2Proof.Machine Sys2Proof.Laws

/-! ### Bytes in memory -/

/-- From `a` on, memory outside the register block shows these bytes. -/
def showsBytes (s : State) (a : Word) (bytes : List Byte) : Prop :=
  ∀ k : Nat, k < bytes.length →
    isReg s (a + BitVec.ofNat 16 k) = false ∧ peek s (a + BitVec.ofNat 16 k) = bytes[k]?

theorem add_one_add_ofNat (a : Word) (k : Nat) :
    a + 1 + BitVec.ofNat 16 k = a + BitVec.ofNat 16 (k + 1) := by
  rw [Nat.add_comm k 1, BitVec.ofNat_add, BitVec.add_assoc]
  rfl

/-- The first byte shown, and the others from the next address on. -/
theorem showsBytes_cons {s : State} {a : Word} {b : Byte} {bs : List Byte}
    (h : showsBytes s a (b :: bs)) :
    isReg s a = false ∧ peek s a = some b ∧ showsBytes s (a + 1) bs := by
  obtain ⟨hreg, hpeek⟩ := h 0 (by simp)
  refine ⟨by simpa using hreg, by simpa using hpeek, fun k hk => ?_⟩
  rw [add_one_add_ofNat]
  simpa using h (k + 1) (by simpa using hk)

/-! ### Fetching -/

/-- PC has passed `n` bytes outside the register block: only free values may have been used and bus cycles be
owed. -/
def fetchedPast (n : Nat) (s t : State) : Prop :=
  ∃ draws owed, t = { s with pc := s.pc + BitVec.ofNat 16 n, draws := draws, owed := owed }

/-- Fetching from `s` gave these bytes and passed them. -/
def fetchesBytes (s : State) (bytes : List Byte) (r : List Byte × State) : Prop :=
  r.1 = bytes ∧ fetchedPast bytes.length s r.2

/-- Passing bytes does not change what memory shows. -/
theorem showsBytes_fetchedPast {s t : State} {n : Nat} {a : Word} {bs : List Byte}
    (h : fetchedPast n s t) (hs : showsBytes s a bs) : showsBytes t a bs := by
  obtain ⟨draws, owed, rfl⟩ := h
  exact hs

theorem fetch8_pc (s : State) : (fetch8 s).2.pc = s.pc + 1 := by
  simp [fetch8]

theorem fetch8_past {s : State} (h : isReg s s.pc = false) : fetchedPast 1 s (fetch8 s).2 := by
  have hserial := readByte_serial s.pc s h
  obtain ⟨sci, spi, draws, owed, hread⟩ := readByte_reads s.pc s
  rw [hread] at hserial
  obtain ⟨hsci, hspi⟩ := hserial
  exact ⟨draws, owed, by simp only [fetch8, hread, hsci, hspi]; rfl⟩

/-- Where memory shows at least one byte at PC, that byte is fetched and the others are shown at PC then. -/
theorem fetch8_of_showsBytes {s : State} {b : Byte} {bs : List Byte}
    (h : showsBytes s s.pc (b :: bs)) :
    (fetch8 s).1 = b ∧ fetchedPast 1 s (fetch8 s).2 ∧
      showsBytes (fetch8 s).2 (fetch8 s).2.pc bs := by
  obtain ⟨hreg, hpeek, htail⟩ := showsBytes_cons h
  have hpast := fetch8_past hreg
  refine ⟨readByte_of_peek hpeek, hpast, ?_⟩
  rw [fetch8_pc]
  exact showsBytes_fetchedPast hpast htail

/-- One byte fetched and then the others. -/
theorem fetchesBytes_cons {s : State} {b : Byte} {bs : List Byte} {r : List Byte × State}
    (hb : (fetch8 s).1 = b) (hp : fetchedPast 1 s (fetch8 s).2)
    (h : fetchesBytes (fetch8 s).2 bs r) : fetchesBytes s (b :: bs) ((fetch8 s).1 :: r.1, r.2) := by
  obtain ⟨hbytes, draws, owed, hrest⟩ := h
  obtain ⟨_, _, hfirst⟩ := hp
  refine ⟨by rw [hb, hbytes], draws, owed, ?_⟩
  rw [hrest, fetch8_pc, add_one_add_ofNat, hfirst]
  rfl

/-- Bytes that memory shows at PC are the bytes fetched. -/
theorem fetchBytes_of_showsBytes (bs : List Byte) :
    ∀ s : State, showsBytes s s.pc bs → fetchesBytes s bs (fetchBytes bs.length s) := by
  induction bs with
  | nil => exact fun s _ => ⟨rfl, s.draws, s.owed, by simp [fetchBytes]⟩
  | cons b bs ih =>
    intro s h
    obtain ⟨hb, hp, htail⟩ := fetch8_of_showsBytes h
    exact fetchesBytes_cons hb hp (ih _ htail)

/-! ### The bytes of a decoded instruction -/

/-- A shape that leaves no byte over took its number of operand bytes. -/
theorem length_of_take {sh : Shape} {bs : List Byte} {i : Instr} (h : sh.take bs = .ok (i, [])) :
    bs.length = sh.operands := by
  unfold Shape.take at h
  split at h
  case h_5 => cases h
  all_goals simp_all [Shape.operands]

/-- The opcode of a decoded instruction is assigned on its page, and all its operand bytes are there. -/
theorem decodeOn_cons {page : Page} {op : Byte} {bs : List Byte} {i : Instr}
    (h : decodeOn page (op :: bs) = .ok (i, [])) :
    ∃ sh, lookup page op = some sh ∧ bs.length = sh.operands := by
  simp only [decodeOn] at h
  split at h
  · cases h
  next sh hsh => exact ⟨sh, hsh, length_of_take h⟩

/-- The operands that follow a decoded opcode are fetched. -/
theorem fetchOperands_of_decodeOn {page : Page} {op : Byte} {bs : List Byte} {i : Instr} {s : State}
    (hd : decodeOn page (op :: bs) = .ok (i, [])) (hs : showsBytes s s.pc bs) :
    fetchesBytes s bs (fetchOperands page op s) := by
  obtain ⟨sh, hsh, hlen⟩ := decodeOn_cons hd
  simp only [fetchOperands, hsh, ← hlen]
  exact fetchBytes_of_showsBytes bs s hs

/-- Where memory shows the bytes of an instruction at PC, exactly those are fetched (00 R14, 30 R171). -/
theorem fetch_of_decode {s : State} {bytes : List Byte} {i : Instr}
    (hd : decode bytes = .ok (i, [])) (hs : showsBytes s s.pc bytes) :
    fetchesBytes s bytes (fetch s) := by
  cases bytes with
  | nil => cases hd
  | cons b rest =>
    obtain ⟨hb, hp, hrest⟩ := fetch8_of_showsBytes hs
    cases hpre : prebyte? b with
    | none =>
      simp only [decode, hpre] at hd
      simp only [fetch, hb, hpre]
      simpa only [hb] using fetchesBytes_cons hb hp (fetchOperands_of_decodeOn hd hrest)
    | some page =>
      simp only [decode, hpre] at hd
      cases rest with
      | nil => cases hd
      | cons op operands =>
        obtain ⟨hop, hp', hoperands⟩ := fetch8_of_showsBytes hrest
        have second := fetchesBytes_cons hop hp' (fetchOperands_of_decodeOn hd hoperands)
        simp only [fetch, hb, hpre, hop]
        simpa only [hb, hop] using fetchesBytes_cons hb hp second

/-! ### The way a step goes -/

theorem unlessReset_of_none {s : State} {k : State → Result} (h : resetCause s = none) :
    unlessReset s k = k s := by
  simp only [unlessReset, h]

/-- A running machine with no reset due and nothing recognised runs an instruction (60 R436). -/
theorem step_of_running {s : State} (hc : resetCause (boundary s) = none)
    (hr : (boundary s).run = .running) (hn : recognise (boundary s) = none) :
    step s = runInstruction { boundary s with inhibit := false } := by
  simp only [step, unlessReset_of_none hc, hr, stepRunning, hn]

/-- An instruction whose cycles bring no reset due has its effect after them (70 R550). -/
theorem runInstruction_of_decode {s : State} {i : Instr} {rest : List Byte}
    (hd : decode (fetch s).1 = .ok (i, rest))
    (hc : resetCause (spend (cycles i) (fetch s).2) = none) :
    runInstruction s = exec i (spend (cycles i) (fetch s).2) := by
  simp only [runInstruction, hd, afterCycles, unlessReset_of_none hc]

/-- An instruction's cycles change no CPU register, flag or memory byte, and the clock counts them with those
owed. -/
theorem spend_cycles_frame (i : Instr) (s : State) :
    regs (spend (cycles i) s) = regs s ∧ (spend (cycles i) s).ccr = s.ccr ∧
      (spend (cycles i) s).mem = s.mem ∧
      (spend (cycles i) s).cycles = s.cycles + s.owed + cycles i := by
  obtain ⟨_, _, _, _, _, _, _, _, _, h⟩ := spend_changes (cycles i) (cycles_ge i) s
  rw [h]
  exact ⟨rfl, rfl, rfl, (Nat.add_assoc _ _ _).symm⟩

/-- Settles O5: the bytes shown are the bytes fetched, and the step is the instruction they decode to. -/
theorem stepRunsInstruction : Obligations.StepRunsInstruction := by
  rintro s u _ i bytes hc hr hn rfl hd hs rfl ht
  obtain ⟨hbytes, draws, owed, hfetch⟩ := fetch_of_decode hd hs
  obtain ⟨hregs, hccr, hmem, hcycles⟩ :=
    spend_cycles_frame i (fetch { boundary s with inhibit := false }).2
  refine ⟨hbytes, ?step, ?regs, ?ccr, ?mem, ?cycles⟩
  case step =>
    rw [step_of_running hc hr hn]
    exact runInstruction_of_decode (by rw [hbytes]; exact hd) ht
  case regs => rw [hregs, hfetch]; rfl
  case ccr => rw [hccr, hfetch]
  case mem => rw [hmem, hfetch]
  case cycles => rw [hcycles, hfetch]

end Sys2Proof.Proofs
end

section
/-! SUPPORT.
Bytes by their bits: what each bit operation of the model does to one bit, and equalities of masked bytes.
-/

namespace Sys2Proof.Proofs

open Sys2Proof.Machine Sys2Proof.Laws

/-- Bytes with the same bits are the same. -/
theorem eq_of_bits {x y : Byte} (h : ∀ k, k < 8 → bit x k = bit y k) : x = y :=
  BitVec.eq_of_getLsbD_eq h

@[simp] theorem bit_and (x y : Byte) (k : Nat) : bit (x &&& y) k = (bit x k && bit y k) :=
  BitVec.getLsbD_and

@[simp] theorem bit_or (x y : Byte) (k : Nat) : bit (x ||| y) k = (bit x k || bit y k) :=
  BitVec.getLsbD_or

/-- A bit of a constant is computed. -/
@[simp] theorem bit_ofNat (n k : Nat) : bit (BitVec.ofNat 8 n) k =
    (decide (k < 8) && decide (n / 2 ^ k % 2 = 1)) := by
  rw [bit, BitVec.getLsbD_ofNat, Nat.testBit_eq_decide_div_mod_eq]

theorem bit_zero (k : Nat) : bit 0#8 k = false := BitVec.getLsbD_zero

theorem bit_not {k : Nat} (hk : k < 8) (x : Byte) : bit (~~~x) k = !bit x k := by
  simp [bit, hk]

theorem bit_one_shift {k : Nat} (hk : k < 8) (j : Nat) : bit (1#8 <<< j) k = decide (k = j) := by
  simp only [bit, BitVec.getLsbD_shiftLeft, BitVec.getLsbD_one]
  grind

theorem bit_bitAt {k : Nat} (hk : k < 8) (j : Nat) (v : Bool) :
    bit (bitAt j v) k = (v && decide (k = j)) := by
  cases v
  · simp [bitAt]
  · simpa [bitAt] using bit_one_shift hk j

theorem bit_setBit {k : Nat} (hk : k < 8) (x : Byte) (j : Nat) (v : Bool) :
    bit (setBit x j v) k = if k = j then v else bit x k := by
  simp only [setBit, bit_or, bit_and, bit_not hk, bit_one_shift hk, bit_bitAt hk]
  by_cases h : k = j <;> simp [h]

theorem bit_blend {k : Nat} (hk : k < 8) (mask x y : Byte) :
    bit (blend mask x y) k = if bit mask k then bit x k else bit y k := by
  cases h : bit mask k <;> simp [blend, bit_not hk, h]

/-- The bits outside a mask read 0 under every disjoint one. -/
theorem and_and_disjoint {m n : Byte} (v : Byte) (h : m &&& n = 0#8) : v &&& m &&& n = 0#8 := by
  rw [BitVec.and_assoc, h, BitVec.and_zero]

/-- Clearing more bits keeps the bits that read 0. -/
theorem and_and_of_and_eq_zero {x n : Byte} (v : Byte) (h : x &&& n = 0#8) : x &&& v &&& n = 0#8 := by
  rw [BitVec.and_assoc, BitVec.and_comm v, ← BitVec.and_assoc, h, BitVec.zero_and]

theorem or_and_eq_zero {x y n : Byte} (hx : x &&& n = 0#8) (hy : y &&& n = 0#8) :
    (x ||| y) &&& n = 0#8 := by
  apply eq_of_bits
  intro k _
  have hx' := congrArg (bit · k) hx
  have hy' := congrArg (bit · k) hy
  simp only [bit_and, bit_or, bit_zero] at hx' hy' ⊢
  grind

theorem or_and_self (x m : Byte) : (x ||| m) &&& m = m := by
  apply eq_of_bits
  intro k _
  simp only [bit_and, bit_or]
  grind

/-- Of the bits that a mask names of a byte, the byte keeps the others. -/
theorem and_not_and_self (x m : Byte) : x &&& ~~~(x &&& m) = x &&& ~~~m := by
  apply eq_of_bits
  intro k hk
  simp [bit_not hk]
  grind

end Sys2Proof.Proofs
end

section
/-! SUPPORT.
The invariant, unit by unit: every operation of a unit keeps the bits that the spec fixes in its registers and
the ranges of its dividers.
-/

namespace Sys2Proof.Proofs

open Sys2Proof.Machine Sys2Proof.Laws

/-! ### Ports -/

theorem portsWrite_ok {p q : Ports} {off : Nat} {v : Byte} (h : p.ok) (hw : p.write off v = some q) :
    q.ok := by
  obtain ⟨hd, hddrd⟩ := h
  unfold Ports.write at hw
  split at hw
  case h_9 => cases hw; exact ⟨and_and_disjoint v rfl, hddrd⟩
  case h_10 => cases hw; exact ⟨hd, and_and_disjoint v rfl⟩
  case h_11 => cases hw
  all_goals cases hw; exact ⟨hd, hddrd⟩

/-! ### Timer -/

/-- Setting high flags of TFLG2 keeps the timer's fixed bits. -/
theorem timerOk_flag2 {t : Timer} {mask : Byte} (h : t.ok) (hm : mask &&& 0x0F#8 = 0#8) :
    (t.flag2 mask).ok := by
  obtain ⟨hoc1m, hoc1d, htmsk2, htflg2, hpactl, hphase, hpaPhase⟩ := h
  exact ⟨hoc1m, hoc1d, htmsk2, or_and_eq_zero htflg2 hm, hpactl, hphase, hpaPhase⟩

theorem prescale_le (t : Timer) : t.prescale ≤ 16 := by
  unfold Timer.prescale
  split <;> decide

theorem timerOk_compares {t : Timer} (h : t.ok) : t.compares.ok := by
  obtain ⟨_, _, hc⟩ := compares_changes t
  rw [hc]
  exact h

theorem timerOk_increment {t : Timer} (h : t.ok) : t.increment.ok := by
  obtain ⟨hoc1m, hoc1d, htmsk2, htflg2, hpactl, _, hpaPhase⟩ := h
  have counted : Timer.ok { t with phase := 0, tcnt := t.tcnt + 1 } :=
    ⟨hoc1m, hoc1d, htmsk2, htflg2, hpactl, by simp, hpaPhase⟩
  unfold Timer.increment
  apply timerOk_compares
  split
  · exact timerOk_flag2 counted rfl
  · exact counted

theorem timerOk_count {t : Timer} (h : t.ok) : t.count.ok := by
  unfold Timer.count
  split
  next hphase =>
    obtain ⟨hoc1m, hoc1d, htmsk2, htflg2, hpactl, _, hpaPhase⟩ := h
    exact ⟨hoc1m, hoc1d, htmsk2, htflg2, hpactl, hphase.trans_le (prescale_le t), hpaPhase⟩
  next => exact timerOk_increment h

theorem timerOk_rti {t : Timer} (n : Nat) (h : t.ok) : (t.rti n).ok := by
  unfold Timer.rti
  split
  · exact timerOk_flag2 h rfl
  · exact h

theorem timerOk_paCount {t : Timer} (h : t.ok) : t.paCount.ok := by
  have counted : Timer.ok { t with pacnt := t.pacnt + 1 } := h
  unfold Timer.paCount
  simp only
  split
  · exact timerOk_flag2 counted rfl
  · exact counted

theorem timerOk_paGate {t : Timer} (pai : Bool) (h : t.ok) : (t.paGate pai).ok := by
  obtain ⟨hoc1m, hoc1d, htmsk2, htflg2, hpactl, hphase, _⟩ := id h
  unfold Timer.paGate
  split
  · split
    next hpa => exact ⟨hoc1m, hoc1d, htmsk2, htflg2, hpactl, hphase, hpa⟩
    next => exact timerOk_paCount ⟨hoc1m, hoc1d, htmsk2, htflg2, hpactl, hphase, by simp⟩
  · exact h

theorem timerOk_tick {t : Timer} (n : Nat) (pai : Bool) (h : t.ok) : (t.tick n pai).ok :=
  timerOk_paGate pai (timerOk_rti n (timerOk_count h))

theorem timerOk_captures {t : Timer} (old new : Byte) (h : t.ok) : (t.captures old new).ok := by
  rw [captures_eq old new t _ _ _ _ rfl rfl rfl rfl]
  exact h

theorem timerOk_paEdge {t : Timer} (old new : Bool) (h : t.ok) : (t.paEdge old new).ok := by
  have flagged : (t.flag2 0x10).ok := timerOk_flag2 h rfl
  unfold Timer.paEdge
  generalize (if bit t.pactl 4 then 1 else 2) = edge
  split
  · simp only
    split
    · exact timerOk_paCount flagged
    · exact flagged
  · exact h

/-- A pin action keeps everything but the compare levels, which no fixed bit is among. -/
theorem timerOk_ocAction {t : Timer} (x : Nat) (h : t.ok) : (t.ocAction x).ok := by
  rw [ocAction_changes]
  exact h

theorem timerOk_force {t : Timer} (v : Byte) (h : t.ok) : (t.force v).ok := by
  have guarded (c : Bool) (x : Nat) {u : Timer} (hu : u.ok) : (if c then u.ocAction x else u).ok := by
    split
    · exact timerOk_ocAction x hu
    · exact hu
  have forced := guarded (bit v 6) 2 h
  have forced := guarded (bit v 5) 3 forced
  have forced := guarded (bit v 4) 4 forced
  unfold Timer.force
  simp only
  split
  · exact guarded _ 5 forced
  · exact guarded _ 5 forced

theorem timerWrite_ok {t u : Timer} {off : Nat} {v : Byte} (h : t.ok) (hw : t.write off v = some u) :
    u.ok := by
  obtain ⟨hoc1m, hoc1d, htmsk2, htflg2, hpactl, hphase, hpaPhase⟩ := id h
  unfold Timer.write at hw
  split at hw
  case h_1 => cases hw; exact timerOk_force v h
  case h_2 =>
    cases hw; exact ⟨and_and_disjoint v rfl, hoc1d, htmsk2, htflg2, hpactl, hphase, hpaPhase⟩
  case h_3 =>
    cases hw; exact ⟨hoc1m, and_and_disjoint v rfl, htmsk2, htflg2, hpactl, hphase, hpaPhase⟩
  case h_18 =>
    cases hw
    exact ⟨hoc1m, hoc1d, htmsk2, and_and_of_and_eq_zero _ htflg2, hpactl, hphase, hpaPhase⟩
  case h_19 =>
    cases hw; exact ⟨hoc1m, hoc1d, htmsk2, htflg2, and_and_disjoint v rfl, hphase, hpaPhase⟩
  case h_21 => cases hw
  all_goals cases hw; exact h

/-! ### SCI -/

theorem sciOk_start {c : Sci} (h : c.ok) : c.start.ok := by
  obtain ⟨hbaud, hsccr1, hscsr⟩ := id h
  unfold Sci.start
  split
  · exact h
  split
  · exact h
  split
  · exact h
  split
  · exact ⟨hbaud, hsccr1, or_and_eq_zero hscsr rfl⟩
  · exact h

theorem sciOk_endFrame {c : Sci} (h : c.ok) : c.endFrame.ok := by
  obtain ⟨hbaud, hsccr1, hscsr⟩ := sciOk_start (c := { c with frame := none, left := 0 }) h
  unfold Sci.endFrame
  simp only
  split
  · exact ⟨hbaud, hsccr1, or_and_eq_zero hscsr rfl⟩
  · exact ⟨hbaud, hsccr1, hscsr⟩

theorem sciOk_tick {c : Sci} (h : c.ok) : c.tick.1.ok := by
  unfold Sci.tick
  split
  · exact sciOk_start h
  · split
    · exact h
    · exact sciOk_endFrame h

theorem setBit_and_eq_zero {x n : Byte} {j : Nat} (v : Bool) (hx : x &&& n = 0#8) (hj : bit n j = false) :
    setBit x j v &&& n = 0#8 := by
  apply eq_of_bits
  intro k hk
  have hxk := congrArg (bit · k) hx
  simp only [bit_and, bit_zero, bit_setBit hk] at hxk ⊢
  split
  · simp_all
  · exact hxk

theorem bitAt_and_eq_zero {n : Byte} {j : Nat} (v : Bool) (hj : bit n j = false) :
    bitAt j v &&& n = 0#8 := by
  apply eq_of_bits
  intro k hk
  simp only [bit_and, bit_zero, bit_bitAt hk]
  by_cases h : k = j <;> simp_all

theorem sciOk_receive {c : Sci} (d : Byte) (n f z : Bool) (h : c.ok) : (c.receive d n f z).ok := by
  obtain ⟨hbaud, hsccr1, hscsr⟩ := h
  unfold Sci.receive
  split
  · exact ⟨hbaud, hsccr1, or_and_eq_zero hscsr rfl⟩
  · refine ⟨hbaud, ?_, ?_⟩
    · simp only
      split
      · exact setBit_and_eq_zero n hsccr1 rfl
      · exact hsccr1
    · exact or_and_eq_zero (or_and_eq_zero (or_and_eq_zero hscsr rfl) (bitAt_and_eq_zero z rfl))
        (bitAt_and_eq_zero _ rfl)

theorem sciOk_rx {c : Sci} (d : Byte) (n f z : Bool) (h : c.ok) : (c.rx d n f z).ok := by
  have received (e : Sci) (he : e.ok) := sciOk_receive d n f z he
  unfold Sci.rx
  split
  · exact h
  simp only
  generalize (if Sci.nine _ then n else bit d 7) = mark
  split
  · split
    · exact received { c with rxActive := true, sccr2 := setBit c.sccr2 1 false } h
    · exact h
  · exact received { c with rxActive := true } h

theorem sciOk_idle {c : Sci} (h : c.ok) : c.idle.ok := by
  obtain ⟨hbaud, hsccr1, hscsr⟩ := id h
  unfold Sci.idle
  split
  · exact h
  split
  · exact h
  refine ⟨hbaud, hsccr1, ?_⟩
  simp only
  split
  · exact or_and_eq_zero hscsr rfl
  · exact hscsr

theorem sciOk_clearSeen {c : Sci} (which : Byte) (h : c.ok) : (c.clearSeen which).ok := by
  obtain ⟨hbaud, hsccr1, hscsr⟩ := h
  exact ⟨hbaud, hsccr1, and_and_of_and_eq_zero _ hscsr⟩

/-! ### SPI -/

theorem spiOk_complete {p : Spi} (input : Byte) (h : p.ok) : (p.complete input).1.ok :=
  or_and_eq_zero h rfl

theorem spiOk_tick {p : Spi} (input : Byte) (h : p.ok) : (p.tick input).1.ok := by
  unfold Spi.tick
  split
  · exact h
  · exact spiOk_complete input h
  · exact h

theorem spiOk_slave {p : Spi} (data : Byte) (ss : Bool) (h : p.ok) : (p.slave data ss).1.ok := by
  unfold Spi.slave
  split
  · exact spiOk_complete data h
  · exact h

theorem spiOk_modeFault {p : Spi} (h : p.ok) : p.modeFault.ok := by
  unfold Spi.modeFault
  split
  · exact or_and_eq_zero h rfl
  · exact h

theorem spiOk_touchSpdr {p : Spi} (h : p.ok) : p.touchSpdr.ok := and_and_of_and_eq_zero _ h

theorem spiOk_writeSpdr {p : Spi} (v : Byte) (h : p.ok) : (p.writeSpdr v).ok := by
  unfold Spi.writeSpdr
  simp only
  split
  · exact or_and_eq_zero (spiOk_touchSpdr h) rfl
  · exact spiOk_touchSpdr h

theorem spiOk_writeSpcr {p : Spi} (v : Byte) (h : p.ok) : (p.writeSpcr v).ok :=
  and_and_of_and_eq_zero _ h

/-! ### Converter -/

theorem adcOk_store {d : Adc} (v : Byte) (h : d.ok) : (d.store v).ok := by
  obtain ⟨hadctl, _⟩ := h
  unfold Adc.store
  split
  · exact ⟨hadctl, by simp⟩
  · exact ⟨hadctl, by simp⟩
  · exact ⟨hadctl, by simp⟩
  · exact ⟨or_and_eq_zero hadctl rfl, by simp⟩

theorem adcOk_writeAdctl {d : Adc} (on : Bool) (v : Byte) : (d.writeAdctl on v).ok :=
  ⟨and_and_disjoint v rfl, by simp [Adc.writeAdctl]⟩

/-! ### EEPROM control -/

theorem pprogValue_ok (old v : Byte) : pprogValue old v &&& 0xE0 = 0#8 := by
  unfold pprogValue
  split
  · exact and_and_disjoint v rfl
  · exact and_and_disjoint v rfl

end Sys2Proof.Proofs
end

section
/-! SUPPORT.
The invariant through accesses: what it depends on, and that every read and every write, of memory and of the
register block, keeps it.
-/

namespace Sys2Proof.Proofs

open Sys2Proof.Machine Sys2Proof.Laws

/-! ### What the invariant depends on -/

/-- The memory and the units, which is all that the invariant speaks of. -/
def units (s : State) : Memory × Ports × Timer × Sci × Spi × Adc × EeCtl × Sys :=
  (s.mem, s.ports, s.timer, s.sci, s.spi, s.adc, s.ee, s.sys)

/-- The invariant depends on the memory and the units only. -/
theorem inv_of_units {s t : State} (h : s.Inv) (hu : units t = units s) : t.Inv := by
  obtain ⟨hmem, hports, htimer, hsci, hspi, hadc, hee, hsys⟩ := h
  simp only [units, Prod.mk.injEq] at hu
  obtain ⟨emem, eports, etimer, esci, espi, eadc, eee, esys⟩ := hu
  exact ⟨emem ▸ hmem, eports ▸ hports, etimer ▸ htimer, esci ▸ hsci, espi ▸ hspi, eadc ▸ hadc,
    eee ▸ hee, esys ▸ hsys⟩

/-! ### Reads -/

theorem inv_busCycle {s : State} (a : Word) (h : s.Inv) : (busCycle a s).Inv :=
  inv_of_units h (by simp [units])

theorem inv_regReadEffect {s : State} (off : Nat) (h : s.Inv) : (regReadEffect s off).Inv := by
  unfold regReadEffect
  split
  · exact { h with }
  · exact { h with spi := spiOk_touchSpdr h.spi }
  · exact { h with }
  · exact { h with sci := sciOk_clearSeen _ h.sci }
  · exact h

theorem inv_readReg {s : State} (off : Nat) (h : s.Inv) : (readReg off s).2.Inv := by
  unfold readReg
  simp only
  split
  · exact inv_regReadEffect off h
  · exact { h with }

theorem units_openByte (r : Region) (off : Nat) (s : State) : units (openByte r off s).2 = units s := by
  cases r <;> rfl

theorem units_readArray (r : Region) (off : Nat) (s : State) : units (readArray r off s).2 = units s := by
  unfold readArray
  split
  · rfl
  · split
    · rfl
    · exact units_openByte r off s

theorem inv_readByte {s : State} (a : Word) (h : s.Inv) : (readByte a s).2.Inv := by
  unfold readByte
  split
  · exact inv_readReg _ h
  · exact inv_of_units (inv_busCycle a h) (units_readArray _ _ _)
  · exact inv_of_units h (units_readArray _ _ s)
  · exact inv_of_units (inv_busCycle a h) rfl

theorem inv_read16 {s : State} (a : Word) (h : s.Inv) : (read16 a s).2.Inv := by
  unfold read16
  split
  · exact h
  · exact inv_readByte _ (inv_readByte a h)

/-! ### Writes of the register block -/

theorem inv_eraseWhere {s : State} (p : Nat → Bool) (h : s.Inv) : (eraseWhere p s).Inv :=
  { h with mem := wf_clearWhere h.mem .eeprom _ }

theorem inv_programByte {s : State} (off : Nat) (v : Byte) (h : s.Inv) : (programByte off v s).Inv :=
  { h with mem := wf_put h.mem .eeprom off _ }

theorem inv_setConfigCells {s : State} (v : Byte) (h : s.Inv) : (setConfigCells v s).Inv := { h with }

theorem inv_eeCommit {s : State} (g : EeTarget) (v : Byte) (h : s.Inv) : (eeCommit g v s).Inv := by
  unfold eeCommit
  cases g with
  | array off =>
    simp only
    split
    · exact h
    split
    · exact inv_programByte off v h
    split
    · exact inv_eraseWhere _ h
    split <;> exact inv_eraseWhere _ h
  | config =>
    simp only
    split
    · exact h
    split
    · exact inv_setConfigCells _ h
    split
    · exact h
    · exact inv_setConfigCells _ (inv_eraseWhere _ h)

/-- PPROG takes its value, and the latches are kept or emptied. -/
theorem inv_endPprog {s : State} (old v : Byte) (keep : Bool) (h : s.Inv) :
    State.Inv { s with ee := { s.ee with
      pprog := pprogValue old v, latch := if keep then s.ee.latch else none } } := by
  obtain ⟨hbprot, _, hlatch⟩ := h.ee
  refine { h with ee := ⟨hbprot, pprogValue_ok old v, ?_⟩ }
  cases keep
  · simp
  · simpa using hlatch

theorem inv_writePprog {s : State} (v : Byte) (h : s.Inv) : (writePprog v s).Inv := by
  unfold writePprog
  simp only
  apply inv_endPprog
  split
  · split
    · exact inv_eeCommit _ _ h
    · exact h
  · exact h

/-- Latching a write to the array or to CONFIG keeps the invariant. -/
theorem inv_latchWrite {s : State} {g : EeTarget} (v : Byte) (h : s.Inv)
    (hg : ∀ off, g = .array off → off < Config.eepromSize) : (latchWrite g v s).Inv := by
  obtain ⟨hbprot, hpprog, _⟩ := h.ee
  unfold latchWrite
  split
  · exact { h with ee := ⟨hbprot, hpprog, fun off _ he => by cases he; exact hg off rfl⟩ }
  · exact h

theorem inv_writeConfig {s : State} (v : Byte) (h : s.Inv) : (writeConfig v s).Inv := by
  have latched : (latchWrite .config v s).Inv := inv_latchWrite v h (by simp)
  obtain ⟨hopt2, _, hcsgadr, hcsgsiz, hmode⟩ := latched.sys
  unfold writeConfig
  simp only
  split
  · exact { latched with sys := ⟨hopt2, or_and_self v _, hcsgadr, hcsgsiz, hmode⟩ }
  · exact latched

theorem inv_writeCoprst {s : State} (v : Byte) (h : s.Inv) : (writeCoprst v s).Inv := by
  unfold writeCoprst
  split
  · exact { h with }
  · split
    · exact { h with }
    · exact h

theorem inv_writeTmsk2 {s : State} (v : Byte) (h : s.Inv) : (writeTmsk2 v s).Inv := by
  obtain ⟨hoc1m, hoc1d, _, htflg2, hpactl, hphase, hpaPhase⟩ := h.timer
  have fixed (pr : Byte) : blend 0xF0 v (pr &&& 0x03) &&& 0x0C = 0#8 := by
    unfold blend
    apply or_and_eq_zero
    · exact and_and_disjoint v rfl
    · rw [BitVec.and_assoc]
      exact and_and_disjoint pr rfl
  exact { h with timer := ⟨hoc1m, hoc1d, fixed _, htflg2, hpactl, hphase, hpaPhase⟩ }

/-- What a write of HPRIO gives RBOOT, SMOD and MDA (10 R84). -/
def hprioMode (v : Byte) (s : State) : Byte :=
  if s.smod then (if bit v 6 then v else v &&& 0x7F)
  else if s.sys.wroteMda then s.sys.hprio else blend 0x20 v s.sys.hprio

theorem writeHprio_mode (v : Byte) (s : State) {k : Nat} (hk : k = 5 ∨ k = 6 ∨ k = 7) :
    bit (writeHprio v s).sys.hprio k = bit (hprioMode v s) k := by
  simp only [writeHprio, hprioMode, bit_or, bit_and]
  rcases hk with rfl | rfl | rfl <;> simp

/-- A write of HPRIO sets RBOOT only with SMOD: it writes the two only in a special mode, and there it masks
RBOOT with SMOD (10 R84). -/
theorem writeHprio_rboot {s : State} (v : Byte)
    (h : bit s.sys.hprio 7 = true → bit s.sys.hprio 6 = true) :
    bit (writeHprio v s).sys.hprio 7 = true → bit (writeHprio v s).sys.hprio 6 = true := by
  rw [writeHprio_mode v s (by simp), writeHprio_mode v s (by simp)]
  unfold hprioMode
  split
  · split
    next hv => exact fun _ => hv
    next => simp
  · split
    · exact h
    · simpa [bit_blend] using h

theorem inv_writeControl {s : State} (off : Nat) (v : Byte) (h : s.Inv) : (writeControl off v s).Inv := by
  obtain ⟨hopt2, hconfig, hcsgadr, hcsgsiz, hmode⟩ := h.sys
  obtain ⟨hbaud, hsccr1, hscsr⟩ := h.sci
  obtain ⟨_, hpprog, hlatch⟩ := h.ee
  unfold writeControl
  split
  · exact inv_writeTmsk2 v h
  · exact { h with spi := spiOk_writeSpcr v h.spi }
  · exact { h with spi := spiOk_writeSpdr v h.spi }
  · exact { h with sci := ⟨and_and_disjoint v rfl, hsccr1, hscsr⟩ }
  · exact { h with sci := ⟨hbaud, and_and_disjoint v rfl, hscsr⟩ }
  · exact { h with }
  · exact { h with sci := sciOk_clearSeen _ h.sci }
  · exact { h with adc := adcOk_writeAdctl _ v }
  · exact { h with ee := ⟨and_and_disjoint _ rfl, hpprog, hlatch⟩ }
  · exact { h with sys := ⟨and_and_disjoint _ rfl, hconfig, hcsgadr, hcsgsiz, hmode⟩ }
  · exact { h with }
  · exact inv_writeCoprst v h
  · exact inv_writePprog v h
  · exact { h with sys := ⟨hopt2, hconfig, hcsgadr, hcsgsiz, writeHprio_rboot v hmode⟩ }
  · exact { h with }
  · exact inv_writeConfig v h
  · exact { h with }
  · exact { h with }
  · exact { h with sys := ⟨hopt2, hconfig, and_and_disjoint v rfl, hcsgsiz, hmode⟩ }
  · exact { h with sys := ⟨hopt2, hconfig, hcsgadr, and_and_disjoint v rfl, hmode⟩ }
  · exact h

theorem inv_writeReg {s : State} (off : Nat) (v : Byte) (h : s.Inv) : (writeReg off v s).Inv := by
  unfold writeReg
  split
  next hp => exact { h with ports := portsWrite_ok h.ports hp }
  next =>
    split
    next ht => exact { h with timer := timerWrite_ok h.timer ht }
    next => exact inv_writeControl off v h

/-! ### Writes of memory -/

theorem resolve_eeprom_lt {s : State} {a : Word} {off : Nat} (h : resolve s a = .mem .eeprom off) :
    off < Config.eepromSize := by
  rw [resolve_by_page] at h
  split_ifs at h <;> simp at h
  all_goals
    show off < 512
    omega

theorem inv_writeByte {s : State} (a : Word) (v : Byte) (h : s.Inv) : (writeByte a v s).Inv := by
  unfold writeByte
  split
  next => exact inv_writeReg _ v h
  next =>
    have hb := inv_busCycle a h
    exact { hb with mem := wf_put hb.mem _ _ _ }
  next r off _ hr =>
    cases r with
    | ram => exact { h with mem := wf_put h.mem _ _ _ }
    | eeprom => exact inv_latchWrite v h fun _ hg => by cases hg; exact resolve_eeprom_lt hr
    | boot => exact h
    | ext => exact { h with mem := wf_put h.mem _ _ _ }
  next => exact inv_busCycle a h

theorem inv_write16 {s : State} (a v : Word) (h : s.Inv) : (write16 a v s).Inv :=
  inv_writeByte _ _ (inv_writeByte a _ h)

end Sys2Proof.Proofs
end

section
/-! SUPPORT.
The invariant through a step: the stack and exceptions, the instructions by their shapes, the cycles of the
devices, events of the environment, resets. Settles O8.
-/

namespace Sys2Proof.Proofs

open Sys2Proof.Machine Sys2Proof.Laws

/-! ### The stack and exceptions -/

theorem inv_push8 {s : State} (v : Byte) (h : s.Inv) : (push8 v s).Inv :=
  inv_of_units (inv_writeByte s.sp v h) rfl

theorem inv_push16 {s : State} (v : Word) (h : s.Inv) : (push16 v s).Inv :=
  inv_push8 _ (inv_push8 _ h)

theorem inv_pull8 {s : State} (h : s.Inv) : (pull8 s).2.Inv :=
  inv_readByte _ (inv_of_units h rfl)

theorem inv_pull16 {s : State} (h : s.Inv) : (pull16 s).2.Inv := inv_pull8 (inv_pull8 h)

theorem inv_stackRegisters {s : State} (h : s.Inv) : (stackRegisters s).Inv :=
  inv_push8 _ (inv_push8 _ (inv_push8 _ (inv_push16 _ (inv_push16 _ (inv_push16 _ h)))))

theorem inv_vectorTo {s : State} (w : Word) (x : Bool) (h : s.Inv) : (vectorTo w x s).Inv := by
  have masked : State.Inv { s with ccr := { s.ccr with i := true, x := s.ccr.x || x } } := { h with }
  exact inv_of_units (inv_read16 _ masked) rfl

theorem inv_enter {s : State} (w : Word) (x : Bool) (h : s.Inv) : (enter w x s).Inv :=
  inv_vectorTo w x (inv_stackRegisters h)

theorem inv_illegalTrap {s : State} (w : Word) (h : s.Inv) : (illegalTrap w s).Inv :=
  inv_enter _ _ (inv_of_units h rfl)

theorem inv_unstackRegisters {s : State} (h : s.Inv) : (unstackRegisters s).Inv := by
  refine inv_of_units (inv_pull16 ?_) rfl
  refine inv_of_units (inv_pull16 ?_) rfl
  refine inv_of_units (inv_pull16 ?_) rfl
  refine inv_of_units (inv_pull8 ?_) rfl
  refine inv_of_units (inv_pull8 ?_) rfl
  exact inv_of_units (inv_pull8 h) rfl

/-! ### The shapes of the instructions -/

theorem inv_operand8 {s : State} (src : Src8) (h : s.Inv) : (operand8 src s).2.Inv := by
  cases src with
  | imm ii => exact h
  | mem m => exact inv_readByte _ h

theorem inv_operand16 {s : State} (src : Src16) (h : s.Inv) : (operand16 src s).2.Inv := by
  cases src with
  | imm w => exact h
  | mem m => exact inv_read16 _ h

theorem units_accSet (r : Acc) (v : Byte) (s : State) : units (r.set v s) = units s := by
  cases r <;> rfl

theorem units_reg16Set (r : Reg16) (v : Word) (s : State) : units (r.set v s) = units s := by
  cases r <;> rfl

theorem inv_accOp {s : State} (r : Acc) (f : Byte → Byte → Ccr → Byte × Ccr) (src : Src8) (h : s.Inv) :
    (accOp r f src s).Inv :=
  inv_of_units (inv_operand8 src h) (units_accSet r _ _)

theorem inv_accTest {s : State} (r : Acc) (f : Byte → Byte → Ccr → Byte × Ccr) (src : Src8)
    (h : s.Inv) : (accTest r f src s).Inv :=
  inv_of_units (inv_operand8 src h) rfl

theorem inv_accUnary {s : State} (r : Acc) (f : Byte → Ccr → Byte × Ccr) (h : s.Inv) :
    (accUnary r f s).Inv :=
  inv_of_units h (units_accSet r _ _)

theorem inv_wideOp {s : State} (r : Reg16) (f : Word → Word → Ccr → Word × Ccr) (src : Src16)
    (h : s.Inv) : (wideOp r f src s).Inv :=
  inv_of_units (inv_operand16 src h) (units_reg16Set r _ _)

theorem inv_wideTest {s : State} (r : Reg16) (f : Word → Word → Ccr → Word × Ccr) (src : Src16)
    (h : s.Inv) : (wideTest r f src s).Inv :=
  inv_of_units (inv_operand16 src h) rfl

theorem inv_store8 {s : State} (r : Acc) (dst : MemOp) (h : s.Inv) : (store8 r dst s).Inv :=
  inv_of_units (inv_writeByte (ea dst s) (r.get s) h) rfl

theorem inv_store16 {s : State} (r : Reg16) (dst : MemOp) (h : s.Inv) : (store16 r dst s).Inv :=
  inv_of_units (inv_write16 (ea dst s) (r.get s) h) rfl

theorem inv_modifyByte {s : State} (f : Byte → Ccr → Byte × Ccr) (dst : MemOp) (h : s.Inv) :
    (modifyByte f dst s).Inv :=
  inv_of_units (inv_writeByte (ea dst s) _ (inv_readByte (ea dst s) h)) rfl

theorem inv_memTest {s : State} (f : Byte → Ccr → Byte × Ccr) (src : MemOp) (h : s.Inv) :
    (memTest f src s).Inv :=
  inv_of_units (inv_readByte (ea src s) h) rfl

theorem inv_branchIf {s : State} (c : Bool) (rr : Byte) (h : s.Inv) : (branchIf c rr s).Inv := by
  cases c
  · exact h
  · exact inv_of_units h rfl

theorem inv_bitBranch {s : State} (test : Byte → Bool) (src : MemOp) (rr : Byte) (h : s.Inv) :
    (bitBranch test src rr s).Inv :=
  inv_branchIf _ rr (inv_readByte _ h)

theorem inv_callTo {s : State} (w : Word) (h : s.Inv) : (callTo w s).Inv :=
  inv_of_units (inv_push16 s.pc h) rfl

theorem units_divided (q r : Nat) (s : State) : units (divided q r s) = units s := rfl

theorem units_notDivided (v c : Bool) (s : State) : units (notDivided v c s) = units s := rfl

theorem units_integerDivide (s : State) : units (integerDivide s) = units s := by
  unfold integerDivide
  simp only
  split
  · exact units_notDivided _ _ s
  · exact units_divided _ _ s

theorem units_fractionalDivide (s : State) : units (fractionalDivide s) = units s := by
  unfold fractionalDivide
  simp only
  split
  · exact units_notDivided _ _ s
  split
  · exact units_notDivided _ _ s
  · exact units_divided _ _ s

/-! ### Instructions -/

/-- Every instruction keeps the invariant. -/
theorem inv_exec {i : Instr} {s t : State} (h : s.Inv) (ht : exec i s = .next t) : t.Inv := by
  cases i with
  | ldaa src | ldab src | aba | adca src | adcb src | adda src | addb src | sba | sbca src | sbcb src
  | suba src | subb src | anda src | andb src | eora src | eorb src | oraa src | orab src =>
    cases ht
    exact inv_accOp _ _ _ h
  | cba | cmpa src | cmpb src | bita src | bitb src => cases ht; exact inv_accTest _ _ _ h
  | ldd src | lds src | ldx src | ldy src | addd src | subd src => cases ht; exact inv_wideOp _ _ _ h
  | cpd src | cpx src | cpy src => cases ht; exact inv_wideTest _ _ _ h
  | staa dst | stab dst => cases ht; exact inv_store8 _ _ h
  | std dst | sts dst | stx dst | sty dst => cases ht; exact inv_store16 _ _ h
  | clr dst | dec dst | inc dst | neg dst | com dst | bset dst mm | bclr dst mm | asl dst | asr dst
  | lsr dst | rol dst | ror dst => cases ht; exact inv_modifyByte _ _ h
  | tst dst => cases ht; exact inv_memTest _ _ h
  | clra | clrb | deca | decb | inca | incb | nega | negb | tsta | tstb | coma | comb | asla | aslb | asra
  | asrb | lsra | lsrb | rola | rolb | rora | rorb => cases ht; exact inv_accUnary _ _ h
  | bra rr | brn rr | bcc rr | bcs rr | beq rr | bne rr | bmi rr | bpl rr | bvs rr | bvc rr | bge rr
  | bgt rr | ble rr | blt rr | bhi rr | bls rr => cases ht; exact inv_branchIf _ _ h
  | brset src mm rr | brclr src mm rr => cases ht; exact inv_bitBranch _ _ _ h
  | bsr rr | jsr dst => cases ht; exact inv_callTo _ h
  | psha | pshb => cases ht; exact inv_push8 _ h
  | pshx | pshy => cases ht; exact inv_push16 _ h
  | pula | pulb => cases ht; exact inv_of_units (inv_pull8 h) rfl
  | pulx | puly | rts => cases ht; exact inv_of_units (inv_pull16 h) rfl
  | idiv => cases ht; exact inv_of_units h (units_integerDivide s)
  | fdiv => cases ht; exact inv_of_units h (units_fractionalDivide s)
  | rti => cases ht; exact inv_unstackRegisters h
  | swi => cases ht; exact inv_enter _ _ h
  | wai => cases ht; exact inv_of_units (inv_stackRegisters h) rfl
  | stop =>
    cases ht
    split
    · exact h
    · exact inv_of_units h rfl
  | test =>
    cases ht
    split
    · exact inv_of_units h rfl
    · exact inv_illegalTrap _ h
  | tap | tpa | tab | tba | tsx | tsy | txs | tys | xgdx | xgdy | abx | aby | daa | des | dex | dey | ins
  | inx | iny | mul | asld | lsrd | jmp dst | clc | cli | clv | sec | sei | sev | nop =>
    cases ht
    exact inv_of_units h rfl

/-! ### Cycles -/

theorem units_adcSample (s : State) : units (adcSample s).2 = units s := by
  unfold adcSample
  simp only
  split
  · rfl
  · split <;> rfl

theorem inv_adcTick {s : State} (h : s.Inv) : (adcTick s).Inv := by
  unfold adcTick
  split
  · exact { h with }
  split
  · exact h
  split
  · exact { h with }
  · have sampled := inv_of_units h (units_adcSample s)
    exact { sampled with adc := adcOk_store _ sampled.adc }

theorem inv_tick {s : State} (h : s.Inv) : (tick s).Inv := by
  have timer : ∀ {u : State}, u.Inv → (timerTick u).Inv :=
    fun hu => { hu with timer := timerOk_tick _ _ hu.timer }
  have cop : ∀ {u : State}, u.Inv → (copTick u).Inv := by
    intro u hu
    unfold copTick
    simp only
    split <;> exact { hu with }
  have sci : ∀ {u : State}, u.Inv → (sciTick u).Inv :=
    fun hu => { hu with sci := sciOk_tick hu.sci }
  have spi : ∀ {u : State}, u.Inv → (spiTick u).Inv :=
    fun hu => { hu with spi := spiOk_tick _ hu.spi }
  exact inv_adcTick (spi (sci (cop (timer (inv_of_units h rfl)))))

theorem inv_advance {s : State} (n : Nat) (h : s.Inv) : (advance n s).Inv := by
  induction n generalizing s with
  | zero => exact h
  | succ n ih => exact ih (inv_tick h)

theorem inv_spend {s : State} (n : Nat) (h : s.Inv) : (spend n s).Inv := by
  have settled : State.Inv { s with owed := 0 } := { h with }
  have counted := inv_advance (s.owed + n - 2) settled
  exact inv_advance 2 { counted with }

/-! ### The environment -/

theorem inv_unlessStopped {s : State} {f : State → State} (hf : s.Inv → (f s).Inv) (h : s.Inv) :
    (unlessStopped f s).Inv := by
  unfold unlessStopped
  split
  · exact h
  · exact hf h

theorem inv_pinEdges {s : State} (old new : Pins) (h : s.Inv) : (pinEdges old new s).Inv := by
  refine { h with timer := timerOk_paEdge _ _ (timerOk_captures _ _ h.timer), spi := ?_ }
  unfold pinEdges
  simp only
  split
  · exact spiOk_modeFault h.spi
  · exact h.spi

theorem inv_applyEvent {s : State} (e : Event) (h : s.Inv) : (applyEvent e s).Inv := by
  cases e with
  | idle => exact h
  | pins p => exact inv_unlessStopped (inv_pinEdges _ p) (inv_of_units h rfl)
  | clockFail => exact inv_of_units h rfl
  | sciRx data ninth framingOk noisy =>
    exact inv_unlessStopped (f := fun s => { s with sci := s.sci.rx data ninth framingOk noisy })
      (fun h => { h with sci := sciOk_rx _ _ _ _ h.sci }) h
  | sciIdle =>
    exact inv_unlessStopped (f := fun s => { s with sci := s.sci.idle })
      (fun h => { h with sci := sciOk_idle h.sci }) h
  | spiSlave data =>
    exact inv_unlessStopped (f := spiSlaveByte data)
      (fun h => { h with spi := spiOk_slave _ _ h.spi }) h
  | spiReply data => exact inv_of_units h rfl
  | analog ch v => exact inv_of_units h rfl

theorem inv_boundary {s : State} (h : s.Inv) : (boundary s).Inv := by
  have next : ∀ {u : State}, u.Inv → (nextEvent u).Inv := by
    intro u hu
    unfold nextEvent
    split
    · exact hu
    · exact inv_applyEvent _ (inv_of_units hu rfl)
  unfold boundary
  split
  · exact next h
  · exact next (inv_advance _ (inv_of_units h rfl))

/-! ### Fetching -/

theorem inv_fetch8 {s : State} (h : s.Inv) : (fetch8 s).2.Inv :=
  inv_of_units (inv_readByte s.pc h) rfl

theorem inv_fetchBytes {s : State} (n : Nat) (h : s.Inv) : (fetchBytes n s).2.Inv := by
  induction n generalizing s with
  | zero => exact h
  | succ n ih => exact ih (inv_fetch8 h)

theorem inv_fetchOperands {s : State} (page : Page) (op : Byte) (h : s.Inv) :
    (fetchOperands page op s).2.Inv := by
  unfold fetchOperands
  split
  · exact inv_fetchBytes _ h
  · exact h

theorem inv_fetch {s : State} (h : s.Inv) : (fetch s).2.Inv := by
  unfold fetch
  simp only
  split
  · exact inv_fetchOperands _ _ (inv_fetch8 h)
  · exact inv_fetchOperands _ _ (inv_fetch8 (inv_fetch8 h))

/-! ### Resets -/

theorem inv_resetPortsTimer {s : State} (h : s.Inv) : (resetPortsTimer s).Inv :=
  { h with
    ports := by simp [Ports.ok, resetPortsTimer, State.reset]
    timer := by simp [Timer.ok, resetPortsTimer, State.reset] }

theorem inv_resetSerial {s : State} (h : s.Inv) : (resetSerial s).Inv :=
  { h with
    sci := ⟨and_and_disjoint _ rfl, by simp [resetSerial, State.reset], by simp [resetSerial, State.reset]⟩
    spi := by simp [Spi.ok, resetSerial, State.reset]
    adc := ⟨and_and_disjoint _ rfl, Nat.zero_lt_succ _⟩ }

/-- After a reset RBOOT is set with SMOD only, whatever the mode (10 R84). -/
theorem hprio_rboot (m : OpMode) : bit m.hprio 7 = true → bit m.hprio 6 = true := by
  cases m <;> simp [OpMode.hprio]

theorem inv_resetSystem {s : State} (h : s.Inv) : (resetSystem s).Inv :=
  { h with
    mem := wf_withCells (r := .ram) h.mem rfl
    ee := by
      refine ⟨?_, ?_, fun _ _ he => by cases he⟩ <;> simp [resetSystem, State.reset]
    sys := by
      refine ⟨?_, or_and_self _ _, ?_, ?_, hprio_rboot s.mode⟩ <;> simp [resetSystem, State.reset] }

theorem inv_resetState {s : State} (cause : ResetCause) (h : s.Inv) : (resetState cause s).Inv :=
  inv_resetSystem (inv_resetSerial (inv_resetPortsTimer (inv_of_units h rfl)))

theorem inv_takeReset {s : State} (cause : ResetCause) (h : s.Inv) : (takeReset cause s).Inv := by
  have reset := inv_resetState cause h
  have settled : State.Inv { resetState cause s with owed := 0 } := { reset with }
  exact inv_of_units (inv_read16 _ settled) rfl

/-! ### Steps -/

/-- Whatever next state the outcome is, it has the invariant. -/
def answersInv (r : Result) : Prop := ∀ t, r = .next t → t.Inv

theorem answersInv_next {s : State} (h : s.Inv) : answersInv (.next s) := by
  rintro _ ⟨⟩
  exact h

theorem answersInv_unlessReset {s : State} {k : State → Result} (h : s.Inv) (hk : answersInv (k s)) :
    answersInv (unlessReset s k) := by
  unfold unlessReset
  split
  · exact answersInv_next (inv_takeReset _ h)
  · exact hk

theorem answersInv_afterCycles {s : State} {k : State → Result} (n : Nat) (h : s.Inv)
    (hk : ∀ u : State, u.Inv → answersInv (k u)) : answersInv (afterCycles n s k) :=
  answersInv_unlessReset (inv_spend n h) (hk _ (inv_spend n h))

theorem inv_acknowledge {s : State} (r : Request) (h : s.Inv) : (acknowledge r s).Inv := by
  unfold acknowledge
  split
  · exact inv_of_units h rfl
  · exact h

theorem inv_takeInterrupt {s : State} (r : Request) (h : s.Inv) : (takeInterrupt r s).Inv :=
  inv_acknowledge r (inv_enter _ _ h)

theorem inv_endWait {s : State} (r : Request) (h : s.Inv) : (endWait r s).Inv :=
  inv_acknowledge r (inv_of_units (inv_vectorTo r.vector r.setsX h) rfl)

theorem answersInv_runInstruction {s : State} (h : s.Inv) : answersInv (runInstruction s) := by
  unfold runInstruction
  simp only
  split
  · exact answersInv_afterCycles _ (inv_fetch h) fun _ hu _ => inv_exec hu
  · exact answersInv_afterCycles _ (inv_fetch h) fun _ hu => answersInv_next (inv_illegalTrap _ hu)

theorem answersInv_stepRunning {s : State} (h : s.Inv) : answersInv (stepRunning s) := by
  unfold stepRunning
  split
  · exact answersInv_afterCycles _ (inv_of_units h rfl) fun _ hu =>
      answersInv_next (inv_takeInterrupt _ hu)
  · exact answersInv_runInstruction (inv_of_units h rfl)

theorem answersInv_stepWaiting {s : State} (h : s.Inv) : answersInv (stepWaiting s) := by
  unfold stepWaiting
  split
  · exact answersInv_afterCycles _ (inv_of_units h rfl) fun _ hu => answersInv_next (inv_endWait _ hu)
  · exact answersInv_next (inv_advance 1 (inv_of_units h rfl))

theorem answersInv_stepStopped {s : State} (h : s.Inv) : answersInv (stepStopped s) := by
  unfold stepStopped
  split
  · exact answersInv_next h
  · exact answersInv_next (inv_of_units h rfl)
  · exact answersInv_afterCycles _ (inv_of_units h rfl) fun _ hu =>
      answersInv_next (inv_takeInterrupt _ hu)

/-- Settles O8: the boundary, a reset and each way a step goes on keep the invariant. -/
theorem stepKeepsInv : Obligations.StepKeepsInv := by
  intro s t h
  have hb := inv_boundary h
  refine answersInv_unlessReset hb ?_ t
  split
  · exact answersInv_stepRunning hb
  · exact answersInv_stepWaiting hb
  · exact answersInv_stepStopped hb
  · exact answersInv_next (inv_advance 1 hb)

end Sys2Proof.Proofs
end

section
/-! SUPPORT.
The condition codes that an instruction can write, by its shape: S, X and I with H are the control bits, N, Z, V
and C the flags. Settles O10 and O11.
-/

namespace Sys2Proof.Proofs

open Sys2Proof.Machine Sys2Proof.Laws

/-- Of the condition codes only N, Z, V and C differ. -/
def flagsOnly (c d : Ccr) : Prop := d = { c with n := d.n, z := d.z, v := d.v, c := d.c }

/-- What an instruction other than TAP and RTI does to S, X, I and H (10 R26 to R29). -/
structure ControlRule (i : Instr) (c d : Ccr) : Prop where
  keepsS : d.s = c.s
  keepsX : d.x = c.x
  neverLowersI : i ≠ .cli → c.i = true → d.i = true
  keepsH : i.addsBytes = false → d.h = c.h

theorem controlRule_of_flagsOnly {i : Instr} {c d : Ccr} (h : flagsOnly c d) : ControlRule i c d := by
  unfold flagsOnly at h
  rw [h]
  exact ⟨rfl, rfl, fun _ hi => hi, fun _ => rfl⟩

theorem controlRule_of_eq {i : Instr} {c d : Ccr} (h : d = c) : ControlRule i c d :=
  controlRule_of_flagsOnly (h ▸ rfl)

/-! ### The condition codes after each shape -/

section
variable {P : Ccr → Ccr → Prop}

theorem accOp_ccr {s : State} {r : Acc} {f : Byte → Byte → Ccr → Byte × Ccr} {src : Src8}
    (hf : ∀ a m, P s.ccr (f a m s.ccr).2) : P s.ccr (accOp r f src s).ccr := by
  simpa [accOp] using hf (r.get (operand8 src s).2) (operand8 src s).1

theorem accTest_ccr {s : State} {r : Acc} {f : Byte → Byte → Ccr → Byte × Ccr} {src : Src8}
    (hf : ∀ a m, P s.ccr (f a m s.ccr).2) : P s.ccr (accTest r f src s).ccr := by
  simpa [accTest] using hf (r.get (operand8 src s).2) (operand8 src s).1

theorem accUnary_ccr {s : State} {r : Acc} {f : Byte → Ccr → Byte × Ccr}
    (hf : ∀ a, P s.ccr (f a s.ccr).2) : P s.ccr (accUnary r f s).ccr := by
  simpa [accUnary] using hf (r.get s)

theorem wideOp_ccr {s : State} {r : Reg16} {f : Word → Word → Ccr → Word × Ccr} {src : Src16}
    (hf : ∀ a m, P s.ccr (f a m s.ccr).2) : P s.ccr (wideOp r f src s).ccr := by
  simpa [wideOp] using hf (r.get (operand16 src s).2) (operand16 src s).1

theorem wideTest_ccr {s : State} {r : Reg16} {f : Word → Word → Ccr → Word × Ccr} {src : Src16}
    (hf : ∀ a m, P s.ccr (f a m s.ccr).2) : P s.ccr (wideTest r f src s).ccr := by
  simpa [wideTest] using hf (r.get (operand16 src s).2) (operand16 src s).1

theorem modifyByte_ccr {s : State} {f : Byte → Ccr → Byte × Ccr} {dst : MemOp}
    (hf : ∀ m, P s.ccr (f m s.ccr).2) : P s.ccr (modifyByte f dst s).ccr := by
  simpa [modifyByte] using hf (readByte (ea dst s) s).1

theorem memTest_ccr {s : State} {f : Byte → Ccr → Byte × Ccr} {src : MemOp}
    (hf : ∀ m, P s.ccr (f m s.ccr).2) : P s.ccr (memTest f src s).ccr := by
  simpa [memTest] using hf (readByte (ea src s) s).1

end

theorem flagsOnly_store8 (r : Acc) (dst : MemOp) (s : State) :
    flagsOnly s.ccr (store8 r dst s).ccr := by
  simp [flagsOnly, store8, Ccr.logic8, Ccr.nz8]

theorem flagsOnly_store16 (r : Reg16) (dst : MemOp) (s : State) :
    flagsOnly s.ccr (store16 r dst s).ccr := by
  simp [flagsOnly, store16, Ccr.logic16, Ccr.nz16]

theorem branchIf_ccr (c : Bool) (rr : Byte) (s : State) : (branchIf c rr s).ccr = s.ccr := by
  cases c <;> rfl

theorem bitBranch_ccr (test : Byte → Bool) (src : MemOp) (rr : Byte) (s : State) :
    (bitBranch test src rr s).ccr = s.ccr := by
  simp [bitBranch, branchIf_ccr]

theorem callTo_ccr (w : Word) (s : State) : (callTo w s).ccr = s.ccr := by
  simp [callTo]

theorem flagsOnly_divided (q r : Nat) (s : State) : flagsOnly s.ccr (divided q r s).ccr := rfl

theorem flagsOnly_notDivided (v c : Bool) (s : State) : flagsOnly s.ccr (notDivided v c s).ccr := rfl

theorem flagsOnly_integerDivide (s : State) : flagsOnly s.ccr (integerDivide s).ccr := by
  unfold integerDivide
  simp only
  split
  · exact flagsOnly_notDivided _ _ s
  · exact flagsOnly_divided _ _ s

theorem flagsOnly_fractionalDivide (s : State) : flagsOnly s.ccr (fractionalDivide s).ccr := by
  unfold fractionalDivide
  simp only
  split
  · exact flagsOnly_notDivided _ _ s
  split
  · exact flagsOnly_notDivided _ _ s
  · exact flagsOnly_divided _ _ s

/-- An entry with no mask for XIRQ sets I only. -/
theorem controlRule_enter (i : Instr) (w : Word) (s : State) :
    ControlRule i s.ccr (enter w false s).ccr := by
  rw [enter_ccr, Bool.or_false]
  exact ⟨rfl, rfl, fun _ _ => rfl, fun _ => rfl⟩

/-- The return from an interrupt loads the condition codes from a byte. -/
theorem unstackRegisters_ccr (s : State) : (unstackRegisters s).ccr = s.ccr.load (pull8 s).1 := by
  simp [unstackRegisters]

/-! ### The instructions -/

/-- Every instruction but TAP and RTI obeys the rule. -/
theorem exec_controlRule {i : Instr} {s t : State} (ht : exec i s = .next t) (htap : i ≠ .tap)
    (hrti : i ≠ .rti) : ControlRule i s.ccr t.ccr := by
  cases i with
  | aba | adca src | adcb src | adda src | addb src =>
    cases ht
    exact accOp_ccr fun _ _ => ⟨rfl, rfl, fun _ hi => hi, fun h => by cases h⟩
  | ldaa src | ldab src | sba | sbca src | sbcb src | suba src | subb src | anda src | andb src | eora src
  | eorb src | oraa src | orab src =>
    cases ht
    exact controlRule_of_flagsOnly (accOp_ccr fun _ _ => rfl)
  | cba | cmpa src | cmpb src | bita src | bitb src =>
    cases ht
    exact controlRule_of_flagsOnly (accTest_ccr fun _ _ => rfl)
  | ldd src | lds src | ldx src | ldy src | addd src | subd src =>
    cases ht
    exact controlRule_of_flagsOnly (wideOp_ccr fun _ _ => rfl)
  | cpd src | cpx src | cpy src =>
    cases ht
    exact controlRule_of_flagsOnly (wideTest_ccr fun _ _ => rfl)
  | clr dst | dec dst | inc dst | neg dst | com dst | bset dst mm | bclr dst mm | asl dst | asr dst
  | lsr dst | rol dst | ror dst =>
    cases ht
    exact controlRule_of_flagsOnly (modifyByte_ccr fun _ => rfl)
  | tst dst =>
    cases ht
    exact controlRule_of_flagsOnly (memTest_ccr fun _ => rfl)
  | clra | clrb | deca | decb | inca | incb | nega | negb | tsta | tstb | coma | comb | asla | aslb | asra
  | asrb | lsra | lsrb | rola | rolb | rora | rorb =>
    cases ht
    exact controlRule_of_flagsOnly (accUnary_ccr fun _ => rfl)
  | staa dst | stab dst =>
    cases ht
    exact controlRule_of_flagsOnly (flagsOnly_store8 _ dst s)
  | std dst | sts dst | stx dst | sty dst =>
    cases ht
    exact controlRule_of_flagsOnly (flagsOnly_store16 _ dst s)
  | bra rr | brn rr | bcc rr | bcs rr | beq rr | bne rr | bmi rr | bpl rr | bvs rr | bvc rr | bge rr
  | bgt rr | ble rr | blt rr | bhi rr | bls rr =>
    cases ht
    exact controlRule_of_eq (branchIf_ccr _ rr s)
  | brset src mm rr | brclr src mm rr =>
    cases ht
    exact controlRule_of_eq (bitBranch_ccr _ src rr s)
  | bsr rr | jsr dst =>
    cases ht
    exact controlRule_of_eq (callTo_ccr _ s)
  | psha | pshb =>
    cases ht
    exact controlRule_of_eq (push8_ccr _ s)
  | pshx | pshy =>
    cases ht
    exact controlRule_of_eq (push16_ccr _ s)
  | pula | pulb =>
    cases ht
    exact controlRule_of_eq (pull8_ccr s)
  | pulx | puly | rts =>
    cases ht
    exact controlRule_of_eq (pull16_ccr s)
  | idiv =>
    cases ht
    exact controlRule_of_flagsOnly (flagsOnly_integerDivide s)
  | fdiv =>
    cases ht
    exact controlRule_of_flagsOnly (flagsOnly_fractionalDivide s)
  | tap => exact absurd rfl htap
  | rti => exact absurd rfl hrti
  | cli =>
    cases ht
    exact ⟨rfl, rfl, fun hcli => absurd rfl hcli, fun _ => rfl⟩
  | sei =>
    cases ht
    exact ⟨rfl, rfl, fun _ _ => rfl, fun _ => rfl⟩
  | swi =>
    cases ht
    exact controlRule_enter _ _ s
  | wai =>
    cases ht
    exact controlRule_of_eq (stackRegisters_ccr s)
  | stop =>
    cases ht
    split <;> exact controlRule_of_eq rfl
  | test =>
    cases ht
    split
    · exact controlRule_of_eq rfl
    · exact controlRule_enter _ _ { s with pc := s.pc - 1 }
  | tpa | tab | tba | tsx | tsy | txs | tys | xgdx | xgdy | abx | aby | daa | des | dex | dey | ins | inx
  | iny | mul | asld | lsrd | jmp dst | clc | clv | sec | sev | nop =>
    cases ht
    exact controlRule_of_flagsOnly rfl

/-- Loading the condition codes from a byte can clear X but not set it (10 R27). -/
theorem load_x {c : Ccr} {b : Byte} (h : (c.load b).x = true) : c.x = true :=
  (Bool.and_eq_true_iff.1 h).1

/-- Settles O10: TAP and RTI load X downwards, every other instruction keeps it. -/
theorem xOnlyCleared : Obligations.XOnlyCleared := by
  intro i s t ht hx
  by_cases htap : i = .tap
  · subst htap
    cases ht
    exact load_x hx
  by_cases hrti : i = .rti
  · subst hrti
    cases ht
    rw [unstackRegisters_ccr] at hx
    exact load_x hx
  · exact (exec_controlRule ht htap hrti).keepsX ▸ hx

/-- Settles O11: the rule of S, I and H for every instruction but TAP and RTI. -/
theorem conditionCodeWriters : Obligations.ConditionCodeWriters := by
  intro i s t ht
  exact ⟨fun htap hrti => (exec_controlRule ht htap hrti).keepsS,
    fun htap hrti hcli => (exec_controlRule ht htap hrti).neverLowersI hcli,
    fun htap hrti => (exec_controlRule ht htap hrti).keepsH⟩

end Sys2Proof.Proofs
end

section
/-! SUPPORT.
The register block as rules: what leads to a register, what a read or a write of it is; the flags that a write
or an access sequence clears, the protected registers and HPRIO. Settles O52, O54 and O55.
-/

namespace Sys2Proof.Proofs

open Sys2Proof.Machine Sys2Proof.Laws

/-! ### Access to a register -/

/-- The register block is first in the map: it depends on INIT only (20 R141). -/
theorem resolve_reg_congr {s t : State} {a : Word} {off : Nat} (hi : t.sys.init = s.sys.init)
    (h : resolve s a = .reg off) : resolve t a = .reg off := by
  unfold resolve at h ⊢
  rw [hi]
  simp only at h ⊢
  split at h
  next hreg => rwa [if_pos hreg]
  next => split_ifs at h

theorem resolve_reg_readByte {s : State} {a : Word} {off : Nat} (b : Word)
    (h : resolve s a = .reg off) : resolve (readByte b s).2 a = .reg off :=
  resolve_reg_congr (by rw [readByte_sys]) h

/-- A write at an address that leads to a register is the write of the register (20 R141). -/
theorem writeByte_of_reg {s : State} {a : Word} {off : Nat} (v : Byte) (h : resolve s a = .reg off) :
    writeByte a v s = writeReg off v s := by
  simp only [writeByte, h]

/-- A read of a register with no open bit answers what it shows and has its side effect. -/
theorem readByte_of_closed {s : State} {a : Word} {off : Nat} (h : resolve s a = .reg off)
    (h0 : (regValue s off).2 = 0) : readByte a s = ((regValue s off).1, regReadEffect s off) := by
  rw [readByte_of_reg h]
  simp only [readReg, h0, if_true]

/-! ### Flags cleared by writes and by access sequences -/

/-- A write to TFLG1 clears the flags written with ones (10 R63). -/
theorem write_tflg1 {s : State} {a : Word} (v : Byte) (h : resolve s a = .reg 0x23) :
    writeByte a v s = { s with timer := { s.timer with tflg1 := s.timer.tflg1 &&& ~~~v } } :=
  writeByte_of_reg v h

/-- A write to TFLG2 clears the flags written with ones (10 R65). -/
theorem write_tflg2 {s : State} {a : Word} (v : Byte) (h : resolve s a = .reg 0x25) :
    writeByte a v s = { s with timer := { s.timer with tflg2 := s.timer.tflg2 &&& ~~~v } } :=
  writeByte_of_reg v h

theorem bit_and_not {k : Nat} (hk : k < 8) (x v : Byte) : bit (x &&& ~~~v) k = (bit x k && !bit v k) := by
  rw [bit_and, bit_not hk]

theorem read_scsr {s : State} {a : Word} (h : resolve s a = .reg 0x2E) :
    readByte a s = (s.sci.scsr, { s with sci := s.sci.readScsr }) :=
  readByte_of_closed h rfl

theorem read_scdr {s : State} {a : Word} (h : resolve s a = .reg 0x2F) :
    readByte a s = (s.sci.rdr, { s with sci := s.sci.readScdr }) :=
  readByte_of_closed h rfl

theorem write_scdr {s : State} {a : Word} (v : Byte) (h : resolve s a = .reg 0x2F) :
    writeByte a v s = { s with sci := s.sci.writeScdr v } :=
  writeByte_of_reg v h

theorem read_spsr {s : State} {a : Word} (h : resolve s a = .reg 0x29) :
    readByte a s = (s.spi.spsr, { s with spi := s.spi.readSpsr }) :=
  readByte_of_closed h rfl

theorem read_spdr {s : State} {a : Word} (h : resolve s a = .reg 0x2A) :
    readByte a s = (s.spi.rdBuf, { s with spi := s.spi.touchSpdr }) :=
  readByte_of_closed h rfl

theorem write_spdr {s : State} {a : Word} (v : Byte) (h : resolve s a = .reg 0x2A) :
    writeByte a v s = { s with spi := s.spi.writeSpdr v } :=
  writeByte_of_reg v h

theorem write_spcr {s : State} {a : Word} (v : Byte) (h : resolve s a = .reg 0x28) :
    writeByte a v s = { s with spi := s.spi.writeSpcr v } :=
  writeByte_of_reg v h

/-- What a write of SPDR leaves in SPSR: the flags seen cleared, WCOL set where an exchange is under way. -/
theorem writeSpdr_spsr (v : Byte) (p : Spi) :
    (p.writeSpdr v).spsr =
      p.spsr &&& ~~~(p.readMask &&& 0xC0) ||| (if p.left = 0 then 0 else 0x40) := by
  by_cases hl : p.left = 0 <;> simp [Spi.writeSpdr, Spi.touchSpdr, hl]

/-- Settles O52: the two writes, the two access sequences each with its last accesses, and the four reads. -/
theorem flagClearing : Obligations.FlagClearing := by
  refine ⟨?writes, ?sequences, ?reads⟩
  case writes =>
    rintro s _ a v rfl
    refine ⟨fun h => ?_, fun h => ?_⟩
    · rw [write_tflg1 v h]
      exact ⟨rfl, rfl, fun k hk => bit_and_not hk _ _⟩
    · rw [write_tflg2 v h]
      exact ⟨rfl, rfl, fun k hk => bit_and_not hk _ _⟩
  case sequences =>
    rintro s _ a b v rfl
    refine ⟨fun ha hb => ?_, fun ha hb => ?_, fun ha hb => ?_⟩
    · have hb' := resolve_reg_readByte a hb
      rw [read_scdr hb', write_scdr v hb', read_scsr ha]
      exact ⟨rfl, rfl, and_not_and_self _ _, and_not_and_self _ _, rfl⟩
    · have hb' := resolve_reg_readByte a hb
      rw [read_spdr hb', write_spdr v hb', read_spsr ha]
      refine ⟨rfl, rfl, and_not_and_self _ _, ?_⟩
      rw [writeSpdr_spsr]
      exact congrArg (· ||| _) (and_not_and_self _ _)
    · rw [write_spcr v (resolve_reg_readByte a hb), read_spsr ha]
      exact ⟨and_not_and_self _ _, rfl⟩
  case reads => exact fun s a => ⟨read_spsr, read_spdr, read_scsr, read_scdr⟩

/-! ### The protected registers -/

theorem mayWrite_special {s : State} (written : Bool) (h : s.smod = true) : mayWrite s written = true := by
  simp [mayWrite, h]

/-- The first write in the window is allowed (10 R94, 70 R530). -/
theorem mayWrite_first {s : State} {written : Bool} (hw : written = false)
    (hc : s.cycles + s.owed ≤ 64) : mayWrite s written = true := by
  have window : inWindow s = true := by
    refine decide_eq_true (?_ : s.cycles + s.owed - 1 < 64)
    omega
  simp [mayWrite, hw, window]

/-- In a normal mode a later write, or one after the window, is not (10 R94, 70 R530). -/
theorem mayWrite_late {s : State} {written : Bool} (hs : s.smod = false)
    (hw : written = true ∨ 64 < s.cycles + s.owed) : mayWrite s written = false := by
  rcases hw with hw | hc
  · simp [mayWrite, hs, hw]
  · have window : inWindow s = false := by
      refine decide_eq_false (?_ : ¬ s.cycles + s.owed - 1 < 64)
      omega
    simp [mayWrite, hs, window]

/-- Of two bytes blended by a mask, its bits are those of the first. -/
theorem blend_and_mask (mask x y : Byte) : blend mask x y &&& mask = x &&& mask := by
  apply eq_of_bits
  intro k hk
  simp only [bit_and, bit_blend hk]
  cases bit mask k <;> simp

/-- Of two bytes blended by a mask, the bits outside it are those of the second. -/
theorem blend_and_outside {mask n : Byte} (x y : Byte) (h : mask &&& n = 0#8) :
    blend mask x y &&& n = y &&& n := by
  apply eq_of_bits
  intro k hk
  have hk' := congrArg (bit · k) h
  simp only [bit_and, bit_zero, bit_blend hk] at hk' ⊢
  cases hm : bit mask k <;> simp_all

theorem write_option {s : State} {a : Word} (v : Byte) (h : resolve s a = .reg 0x39) :
    writeByte a v s = writeOption v s :=
  writeByte_of_reg v h

theorem write_tmsk2 {s : State} {a : Word} (v : Byte) (h : resolve s a = .reg 0x24) :
    writeByte a v s = writeTmsk2 v s :=
  writeByte_of_reg v h

theorem write_init {s : State} {a : Word} (v : Byte) (h : resolve s a = .reg 0x3D) :
    writeByte a v s = writeInit v s :=
  writeByte_of_reg v h

theorem write_bprot {s : State} {a : Word} (v : Byte) (h : resolve s a = .reg 0x35) :
    writeByte a v s = writeBprot v s :=
  writeByte_of_reg v h

theorem write_opt2 {s : State} {a : Word} (v : Byte) (h : resolve s a = .reg 0x38) :
    writeByte a v s = writeOpt2 v s :=
  writeByte_of_reg v h

theorem write_hprio {s : State} {a : Word} (v : Byte) (h : resolve s a = .reg 0x3C) :
    writeByte a v s = writeHprio v s :=
  writeByte_of_reg v h

theorem writeOption_allowed {s : State} (v : Byte) (h : mayWrite s s.sys.wroteOption = true) :
    (writeOption v s).sys.option = v := by
  simp [writeOption, h]

theorem writeOption_late {s : State} (v : Byte) (h : mayWrite s s.sys.wroteOption = false) :
    (writeOption v s).sys.option = blend 0xC8 v s.sys.option := by
  simp [writeOption, h]

theorem writeInit_allowed {s : State} (v : Byte) (h : mayWrite s s.sys.wroteInit = true) :
    (writeInit v s).sys.init = v := by
  simp [writeInit, h]

theorem writeInit_late {s : State} (v : Byte) (h : mayWrite s s.sys.wroteInit = false) :
    (writeInit v s).sys.init = s.sys.init := by
  simp [writeInit, h]

/-- TMSK2: PR is the byte written where it may be, else the old one; the other bits are written (10 R64). -/
theorem writeTmsk2_pr (v : Byte) (s : State) :
    (writeTmsk2 v s).timer.tmsk2 &&& 0x03 =
      (if mayWrite s s.sys.wroteTmsk2 then v else s.timer.tmsk2) &&& 0x03 := by
  simp only [writeTmsk2]
  rw [blend_and_outside _ _ rfl, BitVec.and_assoc, BitVec.and_self]

theorem writeTmsk2_allowed {s : State} (v : Byte) (h : mayWrite s s.sys.wroteTmsk2 = true) :
    (writeTmsk2 v s).timer.tmsk2 &&& 0x03 = v &&& 0x03 := by
  rw [writeTmsk2_pr, if_pos h]

theorem writeTmsk2_late {s : State} (v : Byte) (h : mayWrite s s.sys.wroteTmsk2 = false) :
    (writeTmsk2 v s).timer.tmsk2 &&& 0x03 = s.timer.tmsk2 &&& 0x03 := by
  rw [writeTmsk2_pr, h, if_neg Bool.false_ne_true]

theorem writeTmsk2_enables (v : Byte) (s : State) :
    (writeTmsk2 v s).timer.tmsk2 &&& 0xF0 = v &&& 0xF0 :=
  blend_and_mask 0xF0 v _

theorem writeTmsk2_zeros (v : Byte) (s : State) : (writeTmsk2 v s).timer.tmsk2 &&& 0x0C = 0 := by
  simp only [writeTmsk2]
  rw [blend_and_outside _ _ rfl]
  exact and_and_disjoint _ rfl

theorem writeBprot_allowed {s : State} (v : Byte) (h : mayWrite s s.sys.wroteBprot = true) :
    (writeBprot v s).ee.bprot = v &&& 0x1F := by
  simp [writeBprot, h]

theorem writeBprot_late {s : State} (v : Byte) (h : mayWrite s s.sys.wroteBprot = false) :
    (writeBprot v s).ee.bprot = (s.ee.bprot ||| v) &&& 0x1F := by
  simp [writeBprot, h]

/-- OPT2 after its first write in a normal mode: CLK4X stays, the others are written (10 R80). -/
theorem writeOpt2_late {s : State} (v : Byte) (hs : s.smod = false) (hw : s.sys.wroteClk4x = true) :
    (writeOpt2 v s).sys.opt2 = blend 0xC0 v s.sys.opt2 &&& 0xE0 := by
  simp [writeOpt2, hs, hw]

theorem writeOpt2_allowed {s : State} (v : Byte) (h : s.smod = true ∨ s.sys.wroteClk4x = false) :
    (writeOpt2 v s).sys.opt2 = v &&& 0xE0 := by
  rcases h with h | h <;> simp [writeOpt2, h]

theorem writeOpt2_wom (v : Byte) (s : State) : (writeOpt2 v s).sys.opt2 &&& 0xC0 = v &&& 0xC0 := by
  by_cases h : s.smod = true ∨ s.sys.wroteClk4x = false
  · rw [writeOpt2_allowed v h, BitVec.and_assoc]
    rfl
  · simp only [not_or, Bool.not_eq_true, Bool.not_eq_false] at h
    rw [writeOpt2_late v h.1 h.2, BitVec.and_assoc]
    exact blend_and_mask 0xC0 v _

/-- Settles O54: each protected register by whether its protected bits may be written. -/
theorem writeOnce : Obligations.WriteOnce := by
  rintro s _ a v rfl
  refine ⟨?option, ?init, ?tmsk2, ?bprot, ?opt2⟩
  case option =>
    intro h
    rw [write_option v h]
    refine ⟨rfl, fun hs => writeOption_allowed v (mayWrite_special _ hs),
      fun _ hw hc => writeOption_allowed v (mayWrite_first hw hc), fun hs hw => ?_⟩
    rw [writeOption_late v (mayWrite_late hs hw)]
    exact ⟨blend_and_outside _ _ rfl, blend_and_mask _ _ _⟩
  case init =>
    intro h
    rw [write_init v h]
    exact ⟨rfl, fun hs => writeInit_allowed v (mayWrite_special _ hs),
      fun _ hw hc => writeInit_allowed v (mayWrite_first hw hc),
      fun hs hw => writeInit_late v (mayWrite_late hs hw)⟩
  case tmsk2 =>
    intro h
    rw [write_tmsk2 v h]
    exact ⟨rfl, writeTmsk2_enables v s, writeTmsk2_zeros v s,
      fun hs => writeTmsk2_allowed v (mayWrite_special _ hs),
      fun _ hw hc => writeTmsk2_allowed v (mayWrite_first hw hc),
      fun hs hw => writeTmsk2_late v (mayWrite_late hs hw)⟩
  case bprot =>
    intro h
    rw [write_bprot v h]
    exact ⟨rfl, fun hs => writeBprot_allowed v (mayWrite_special _ hs),
      fun _ hw hc => writeBprot_allowed v (mayWrite_first hw hc),
      fun hs hw => writeBprot_late v (mayWrite_late hs hw)⟩
  case opt2 =>
    intro h
    rw [write_opt2 v h]
    refine ⟨rfl, writeOpt2_wom v s, and_and_disjoint _ rfl, fun hw => ?_, fun hs hw => ?_⟩
    · rw [writeOpt2_allowed v hw, BitVec.and_assoc]
      rfl
    · rw [writeOpt2_late v hs hw, BitVec.and_assoc]
      exact blend_and_outside _ _ rfl

/-! ### HPRIO -/

/-- The low digit of a byte is its value under the mask $0F. -/
theorem toNat_mod_16 (x : Byte) : x.toNat % 16 = (x &&& 0x0F).toNat := by
  rw [BitVec.toNat_and]
  exact (Nat.and_two_pow_sub_one_eq_mod x.toNat 4).symm

/-- PSEL is written only while I = 1 (60 R433). -/
theorem writeHprio_psel (v : Byte) (s : State) :
    (writeHprio v s).sys.hprio &&& 0x0F = (if s.ccr.i then v else s.sys.hprio) &&& 0x0F := by
  apply eq_of_bits
  intro k hk
  simp only [writeHprio, bit_or, bit_and]
  interval_cases k <;> simp

theorem writeHprio_irv (v : Byte) (s : State) : bit (writeHprio v s).sys.hprio 4 = bit v 4 := by
  simp [writeHprio]

/-- In a normal mode SMOD and RBOOT stay, and MDA is written by the first write only (10 R84, R94). -/
theorem hprioMode_normal {s : State} (v : Byte) (h : s.smod = false) :
    bit (hprioMode v s) 6 = bit s.sys.hprio 6 ∧ bit (hprioMode v s) 7 = bit s.sys.hprio 7 ∧
      bit (hprioMode v s) 5 = if s.sys.wroteMda then bit s.sys.hprio 5 else bit v 5 := by
  cases hw : s.sys.wroteMda <;> simp [hprioMode, h, hw, bit_blend]

/-- In a special mode all three are written, RBOOT only with SMOD (10 R84). -/
theorem hprioMode_special {s : State} (v : Byte) (h : s.smod = true) :
    bit (hprioMode v s) 6 = bit v 6 ∧ bit (hprioMode v s) 5 = bit v 5 ∧
      bit (hprioMode v s) 7 = (bit v 7 && bit v 6) := by
  cases hv : bit v 6 <;> simp [hprioMode, h, hv]

/-- Settles O55: PSEL, IRV, and the three mode bits in a normal and in a special mode. -/
theorem hprioWrites : Obligations.HprioWrites := by
  rintro s _ a v h rfl
  rw [write_hprio v h]
  have mode (k : Nat) (hk : k = 5 ∨ k = 6 ∨ k = 7) := writeHprio_mode v s hk
  refine ⟨?kept, ?written, writeHprio_irv v s, ?normal, ?special, rfl⟩
  case kept =>
    intro hi
    rw [toNat_mod_16, toNat_mod_16, writeHprio_psel, hi, if_neg Bool.false_ne_true]
  case written =>
    intro hi
    rw [toNat_mod_16, toNat_mod_16, writeHprio_psel, if_pos hi]
  case normal =>
    intro hs
    obtain ⟨hsmod, hrboot, hmda⟩ := hprioMode_normal v hs
    exact ⟨((mode 6 (by simp)).trans hsmod).trans hs, (mode 7 (by simp)).trans hrboot,
      by simp [writeHprio, hs], (mode 5 (by simp)).trans hmda⟩
  case special =>
    intro hs
    obtain ⟨hsmod, hmda, hrboot⟩ := hprioMode_special v hs
    exact ⟨(mode 6 (by simp)).trans hsmod, (mode 5 (by simp)).trans hmda,
      (mode 7 (by simp)).trans hrboot⟩

end Sys2Proof.Proofs
end

section
/-! SUPPORT.
What each register reads and what a write leaves in it, the ports among them. Settles O56.
-/

namespace Sys2Proof.Proofs

open Sys2Proof.Machine Sys2Proof.Laws

/-! ### Reading back -/

theorem and_ff (v : Byte) : v &&& 0xFF#8 = v := BitVec.and_allOnes

/-- A register that shows `w`, with no open bit, after a write reads back `w`. -/
theorem readBack {s : State} {a : Word} {off : Nat} {v w x : Byte} (h : resolve s a = .reg off)
    (hi : (writeReg off v s).sys.init = s.sys.init) (hv : regValue (writeReg off v s) off = (w, 0))
    (hx : w = x) : (readByte a (writeByte a v s)).1 = x := by
  rw [writeByte_of_reg v h, readByte_of_closed (resolve_reg_congr hi h) (by rw [hv]), hv]
  exact hx

/-- A bit that is not open reads as the register shows it. -/
theorem bit_readByte {s : State} {a : Word} {off k : Nat} (hk : k < 8) (h : resolve s a = .reg off)
    (ho : bit (regValue s off).2 k = false) :
    bit (readByte a s).1 k = bit (regValue s off).1 k := by
  rw [readByte_of_reg h]
  unfold readReg
  simp only
  split
  · rfl
  · simp [bit_blend hk, ho]

/-! ### Registers that ignore writes -/

/-- Reserved, test-only and read-only offsets ignore a write (10 R41, R56, R79, R86, R88, R93). -/
theorem writeReg_ignored {off : Nat} (v : Byte) (s : State)
    (h : off ∈ [0x0A, 0x0E, 0x0F, 0x10, 0x11, 0x12, 0x13, 0x14, 0x15, 0x29, 0x2E, 0x31, 0x32, 0x33, 0x34,
      0x36, 0x37, 0x3E] ∨ (0x40 ≤ off ∧ off ≤ 0x5B) ∨ (0x60 ≤ off ∧ off ≤ 0x7F)) :
    writeReg off v s = s := by
  rcases h with h | ⟨hlo, hhi⟩ | ⟨hlo, hhi⟩
  · repeat' rcases h with _ | ⟨_, h⟩
    all_goals rfl
  · interval_cases off <;> rfl
  · interval_cases off <;> rfl

/-- In a special mode a write of CONFIG goes to the register at once (10 R87). -/
theorem writeConfig_special {s : State} (v : Byte) (h : s.smod = true) :
    (writeConfig v s).sys = { s.sys with config := v ||| 0x0A } := by
  have hs : (latchWrite .config v s).smod = true := by simpa [State.smod] using h
  simp [writeConfig, hs]

/-- In a normal mode one with EELAT = 0 does nothing (10 R87, 60 R496). -/
theorem writeConfig_ignored {s : State} (v : Byte) (h : s.smod = false) (he : s.eelat = false) :
    writeConfig v s = s := by
  simp [writeConfig, latchWrite, h, he]

/-! ### Ports -/

/-- What the chip drives on a pin: a wired-OR port no one (60 R490). -/
theorem driven_eq (out level wiredOr : Bool) :
    (if out && !(wiredOr && level) then some level else none) =
      if out = true ∧ (wiredOr = true → level = false) then some level else none := by
  cases out <;> cases level <;> cases wiredOr <;> rfl

theorem bit_portRead {k : Nat} (hk : k < 8) (ddr latch pins : Byte) :
    bit (portRead ddr latch pins) k = if bit ddr k then bit latch k else bit pins k :=
  bit_blend hk ddr latch pins

theorem omol_two (t : Timer) : t.omol 2 = t.tctl1.toNat / 64 := by
  have := t.tctl1.isLt
  simp only [Timer.omol]
  omega

theorem omol_three (t : Timer) : t.omol 3 = t.tctl1.toNat / 16 % 4 := rfl

theorem omol_four (t : Timer) : t.omol 4 = t.tctl1.toNat / 4 % 4 := rfl

theorem omol_five (t : Timer) : t.omol 5 = t.tctl1.toNat % 4 := by
  simp [Timer.omol]

/-- The timer's pair OMx:OLx behind each pin of port A: none behind PA7 and PA2 to PA0, and OC5's only where
I4/O5 = 0 (10 R60, R66). -/
def pinMode (t : Timer) (k om : Nat) : Prop :=
  (k, om) ∈ [(7, 0), (6, t.tctl1.toNat / 64), (5, t.tctl1.toNat / 16 % 4), (4, t.tctl1.toNat / 4 % 4),
    (3, if bit t.pactl 2 then 0 else t.tctl1.toNat % 4), (2, 0), (1, 0), (0, 0)]

/-- The timer is connected to a pin where its pair OMx:OLx is not 00 (10 R60). -/
theorem bit_ocConnected {t : Timer} {k om : Nat} (h : pinMode t k om) :
    bit t.ocConnected k = (om != 0) := by
  have bits (j : Nat) (hj : j < 8) : bit t.ocConnected j =
      ((t.omol 2 != 0 && decide (j = 6)) || (t.omol 3 != 0 && decide (j = 5)) ||
        (t.omol 4 != 0 && decide (j = 4)) || ((t.oc5 && t.omol 5 != 0) && decide (j = 3))) := by
    simp only [Timer.ocConnected, bit_or, bit_bitAt hj]
  repeat' rcases h with _ | ⟨_, h⟩
  all_goals rw [bits _ (by decide)]
  case head => simp
  case tail.head => simp [omol_two]
  case tail.tail.head => simp [omol_three]
  case tail.tail.tail.head => simp [omol_four]
  case tail.tail.tail.tail.head =>
    cases hi : bit t.pactl 2 <;> simp [omol_five, Timer.oc5, hi]
  all_goals simp

/-- PA6 to PA4 are outputs while the timer is connected to them; PA7 never is (10 R43). -/
theorem pinMode_forced {t : Timer} {k om : Nat} (h : pinMode t k om) :
    (om != 0 && bit 0x70#8 k) = (decide (4 ≤ k) && om != 0) := by
  repeat' rcases h with _ | ⟨_, h⟩
  all_goals simp

/-- What a bit of port A reads (10 R42, R43, 60 R471). -/
theorem bit_portA {s : State} {k om : Nat} (hk : k < 8) (h : pinMode s.timer k om) :
    bit (portA s) k =
      if bit s.ports.ddra k = true ∨ (4 ≤ k ∧ om ≠ 0) then
        (if bit s.timer.oc1m k = true ∨ om ≠ 0 then bit s.timer.ocOut k else bit s.ports.a k)
      else bit s.env.pins.pa k := by
  have output : bit (portAOutputs s) k = (bit s.ports.ddra k || (decide (4 ≤ k) && om != 0)) := by
    rw [← pinMode_forced h, portAOutputs, bit_or, bit_and, bit_ocConnected h]
    rfl
  have level : bit (portALevel s) k =
      if bit s.timer.oc1m k || om != 0 then bit s.timer.ocOut k else bit s.ports.a k := by
    rw [portALevel, bit_blend hk, bit_or, bit_ocConnected h]
  rw [portA, bit_blend hk, output, level]
  simp

/-- A bit of port G reads its latch or its pin, and the chip drives it, but for PG7 with the bus. -/
theorem portG_bit {s : State} {a : Word} {k : Nat} (hk : k < 8) (h : resolve s a = .reg 0x02)
    (hbus : s.mda = true → k < 7) :
    bit (readByte a s).1 k = (if bit s.ports.ddrg k then bit s.ports.g k else bit s.env.pins.pg k) ∧
      pinOut s .g k = if bit s.ports.ddrg k = true ∧ (bit s.sys.opt2 7 = true → bit s.ports.g k = false)
        then some (bit s.ports.g k) else none := by
  have free : (s.mda && decide (k = 7)) = false := by grind
  have closed : bit (regValue s 0x02).2 k = false := by
    cases hm : s.mda
    · simp [regValue, hm]
    · have hk' := hbus hm
      simp only [regValue, hm, if_true]
      interval_cases k <;> simp
  refine ⟨(bit_readByte hk h closed).trans (bit_portRead hk _ _ _), ?_⟩
  simp only [pinOut, free, Bool.false_eq_true, if_false]
  exact driven_eq _ _ _

/-- So does a bit of port C in a mode without the bus. -/
theorem portC_bit {s : State} {a : Word} {k : Nat} (hk : k < 8) (h : resolve s a = .reg 0x06)
    (hbus : s.mda = false) :
    bit (readByte a s).1 k = (if bit s.ports.ddrc k then bit s.ports.c k else bit s.env.pins.pc k) ∧
      pinOut s .c k = if bit s.ports.ddrc k = true ∧ (bit s.sys.opt2 6 = true → bit s.ports.c k = false)
        then some (bit s.ports.c k) else none := by
  have closed : bit (regValue s 0x06).2 k = false := by simp [regValue, hbus]
  refine ⟨(bit_readByte hk h closed).trans (bit_portRead hk _ _ _), ?_⟩
  simp only [pinOut, hbus, Bool.false_eq_true, if_false]
  exact driven_eq _ _ _

/-- So do the six bits of port D. -/
theorem portD_bit {s : State} {a : Word} {k : Nat} (hk : k < 6) (h : resolve s a = .reg 0x08) :
    bit (readByte a s).1 k = (if bit s.ports.ddrd k then bit s.ports.d k else bit s.env.pins.pd k) ∧
      pinOut s .d k = if bit s.ports.ddrd k = true ∧
          ((bit s.spi.spcr 5 && decide (2 ≤ k)) = true → bit s.ports.d k = false)
        then some (bit s.ports.d k) else none := by
  have hk' : k < 8 := by omega
  have shown : bit (0x3F : Byte) k = true := by interval_cases k <;> rfl
  refine ⟨?_, driven_eq _ _ _⟩
  rw [bit_readByte hk' h (bit_zero k), ← bit_portRead hk']
  simp only [regValue, bit_and, shown, Bool.and_true]

/-- Settles O56: what a write leaves to be read and what ignores it, what a write changes, the ports bit by
bit, and what each register reads. -/
theorem registerReadBack : Obligations.RegisterReadBack := by
  refine ⟨?readBack, ?written, ?ports, ?reads⟩
  case readBack =>
    intro s a off v h
    refine ⟨fun keep hm => ?_, fun hi => ?_, fun ho hs => ?_, fun ho hs he => ?_⟩
    · repeat' rcases hm with _ | ⟨_, hm⟩
      all_goals
        exact readBack h rfl rfl (by
          simp [writeReg, Ports.write, Timer.write, writeControl, Sci.writeSccr2, Spi.writeSpcr,
            Adc.writeAdctl, and_ff])
    · rw [writeByte_of_reg v h, writeReg_ignored v s hi]
    · subst ho
      have hsys : (writeReg 0x3F v s).sys = { s.sys with config := v ||| 0x0A } :=
        writeConfig_special v hs
      exact readBack h (by rw [hsys]) rfl (by rw [hsys])
    · subst ho
      rw [writeByte_of_reg v h]
      exact writeConfig_ignored v hs he
  case written =>
    intro s a off v h
    refine ⟨fun p hm => ?_, fun t hm => ?_, fun c hm => ?_, fun y hm => ?_, fun ho => ?_⟩
    case refine_5 =>
      subst ho
      exact writeByte_of_reg v h
    all_goals repeat' rcases hm with _ | ⟨_, hm⟩
    all_goals exact writeByte_of_reg v h
  case ports =>
    intro s a k hk
    refine ⟨fun off name ddr latch pins wiredOr hm h hbus hd => ?_, fun om hm h => ?_⟩
    · rcases hm with _ | ⟨_, _ | ⟨_, _ | ⟨_, hm⟩⟩⟩
      · exact portG_bit hk h fun hm => (hbus hm).2 rfl
      · exact portC_bit hk h (Bool.eq_false_iff.2 fun hm => (hbus hm).1 rfl)
      · exact portD_bit (hd rfl) h
      · cases hm
    · rw [bit_readByte hk h (bit_zero k)]
      exact bit_portA hk hm
  case reads =>
    intro s a off w h
    refine ⟨fun hm hb => ?_, fun hm => ?_, fun hm ha => ?_, fun ho => ?_⟩
    · have closed : (if s.mda then 0xFF#8 else 0) = 0 := by rw [hb]; rfl
      repeat' rcases hm with _ | ⟨_, hm⟩
      all_goals rw [readByte_of_closed h closed]; rfl
    · repeat' rcases hm with _ | ⟨_, hm⟩
      all_goals exact readByte_of_closed h rfl
    · have closed : (if s.adcOn then 0 else 0xFF#8) = 0 := by rw [State.adcOn, ha]; rfl
      repeat' rcases hm with _ | ⟨_, hm⟩
      all_goals rw [readByte_of_closed h closed]; rfl
    · subst ho
      rw [readByte_of_closed h rfl]
      exact and_and_disjoint _ rfl

end Sys2Proof.Proofs
end

section
/-! SUPPORT.
The cycles of the devices as rules: what one cycle does to each unit, none of which sees another; and the last of
several cycles.
-/

namespace Sys2Proof.Proofs

open Sys2Proof.Machine Sys2Proof.Laws

/-! ### One cycle, unit by unit -/

/-- The converter's cycle changes the converter and the count of free values only. -/
theorem adcTick_frame (s : State) :
    adcTick s = { s with adc := (adcTick s).adc, draws := (adcTick s).draws } := by
  have sample : (adcSample s).2 = { s with draws := (adcSample s).2.draws } := by
    unfold adcSample
    simp only
    split
    · rfl
    · split <;> rfl
  unfold adcTick
  split
  · rfl
  split
  · rfl
  split
  · rfl
  · simp only
    rw [sample]

/-- The watchdog's cycle changes the watchdog and its failure only. -/
theorem copTick_frame (s : State) :
    copTick s = { s with cop := (copTick s).cop, copFail := (copTick s).copFail } := by
  unfold copTick
  simp only
  split <;> rfl

/-- What a channel converts to (60 R488). -/
def sampleOf (ch : Nat) (analog : Vector Byte 8) (free : Byte) : Byte :=
  if h : ch < 8 then analog[ch]
  else if ch = 12 then 0xFF else if ch = 13 then 0x00 else if ch = 14 then 0x80 else free

theorem adcSample_eq (s : State) :
    (adcSample s).1 = sampleOf s.adc.channel s.env.analog (Config.freeByte s.draws) := by
  unfold adcSample sampleOf
  generalize s.adc.channel = ch
  simp only
  split
  · rfl
  · split
    case h_4 hne₁ hne₂ hne₃ => simp_all [drawByte]
    all_goals rfl

/-- The converter after one cycle (60 R454, R488). -/
def converted (s : State) : Adc :=
  if !s.adcOn then { s.adc with active := false }
  else if !s.adc.active then s.adc
  else if 1 < s.adc.left then { s.adc with left := s.adc.left - 1 }
  else s.adc.store (sampleOf s.adc.channel s.env.analog (Config.freeByte s.draws))

theorem adcTick_adc (s : State) : (adcTick s).adc = converted s := by
  have kept : (adcSample s).2.adc = s.adc := by
    unfold adcSample
    simp only
    split
    · rfl
    · split <;> rfl
  unfold adcTick converted
  split
  · rfl
  split
  · rfl
  split
  · rfl
  · simp only [kept, adcSample_eq]

theorem converted_congr {s t : State} (ha : t.adc = s.adc) (ho : t.sys = s.sys)
    (he : t.env.analog = s.env.analog) (hd : t.draws = s.draws) : converted t = converted s := by
  simp only [converted, State.adcOn, ha, ho, he, hd]

theorem tick_timer (s : State) :
    (tick s).timer = s.timer.tick (s.cycles + 1) (bit s.env.pins.pa 7) := by
  unfold tick
  rw [adcTick_frame]
  simp only [spiTick, sciTick, send_timer]
  rw [copTick_frame]
  rfl

theorem tick_sci (s : State) : (tick s).sci = s.sci.tick.1 := by
  unfold tick
  rw [adcTick_frame]
  simp only [spiTick, send_sci, sciTick]
  rw [copTick_frame]
  rfl

theorem tick_spi (s : State) : (tick s).spi = (s.spi.tick s.env.spiIn).1 := by
  unfold tick
  rw [adcTick_frame]
  simp only [spiTick, send_spi, sciTick]
  rw [copTick_frame]
  rfl

theorem tick_adc (s : State) : (tick s).adc = converted s := by
  unfold tick
  rw [adcTick_adc]
  apply converted_congr <;> simp only [spiTick, sciTick, send_adc, send_sys, send_draws] <;>
    rw [copTick_frame] <;> rfl

/-- The watchdog, after its count, fails at a tick of the divider by 2^15 at which its period has passed
(60 R475). -/
theorem tick_copFail (s : State) :
    (tick s).copFail = true ↔ s.copFail = true ∨
      (s.nocop = false ∧ (s.cycles + 1) % 2 ^ 15 = 0 ∧ s.copRate * 2 ^ 15 ≤ s.cop.count + 1) := by
  have cop : (tick s).copFail = (copTick (timerTick { s with cycles := s.cycles + 1 })).copFail := by
    unfold tick
    rw [adcTick_frame]
    rfl
  rw [cop]
  unfold copTick
  simp only
  split
  next h =>
    simp only [Bool.and_eq_true, Bool.not_eq_true', decide_eq_true_eq] at h
    exact iff_of_true rfl (.inr ⟨h.1.1, h.1.2, h.2⟩)
  next h =>
    simp only [Bool.and_eq_true, Bool.not_eq_true', decide_eq_true_eq] at h
    exact (or_iff_left fun hc => h ⟨⟨hc.1, hc.2.1⟩, hc.2.2⟩).symm

/-- What the serial units send in a cycle goes before what has been sent. -/
theorem tick_outputs (s : State) :
    (tick s).env.outputs = (s.spi.tick s.env.spiIn).2 ++ (s.sci.tick.2 ++ s.env.outputs) := by
  unfold tick
  rw [adcTick_frame]
  simp only [spiTick, sciTick, send]
  rw [copTick_frame]
  rfl

/-! ### Several cycles -/

/-- The last of several cycles. -/
theorem advance_succ (n : Nat) (s : State) : advance (n + 1) s = tick (advance n s) := by
  induction n generalizing s with
  | zero => rfl
  | succ n ih => exact ih (tick s)

theorem advance_add (m n : Nat) (s : State) : advance (m + n) s = advance n (advance m s) := by
  induction m generalizing s with
  | zero => rw [Nat.zero_add]; rfl
  | succ m ih => rw [Nat.succ_add]; exact ih (tick s)

/-- Cycles change neither what the environment supplies nor the control registers. -/
theorem advance_env (n : Nat) (s : State) :
    (advance n s).env = { s.env with outputs := (advance n s).env.outputs } ∧
      (advance n s).sys = s.sys := by
  obtain ⟨_, _, _, _, _, _, _, _, h⟩ := advance_changes n s
  rw [h]
  exact ⟨rfl, rfl⟩

end Sys2Proof.Proofs
end

section
/-! SUPPORT.
The timer bit by bit: flags, pin actions, compares, the count, the gated pulse accumulator, the real-time
interrupt and CFORC. Settles O53.
-/

namespace Sys2Proof.Proofs

open Sys2Proof.Machine Sys2Proof.Laws

/-! ### Pin actions -/

/-- What the pair OMx:OLx makes of a pin: nothing, toggle, clear, set (10 R60). -/
def pinAction (om : Nat) (level : Bool) : Bool :=
  if om = 1 then !level else if om = 2 then false else if om = 3 then true else level

theorem pinAction_zero (level : Bool) : pinAction 0 level = level := rfl

theorem bit_ocAction {k : Nat} (hk : k < 8) (x : Nat) (t : Timer) :
    bit (t.ocAction x).ocOut k =
      if k = 8 - x then pinAction (t.omol x) (bit t.ocOut k) else bit t.ocOut k := by
  have hlt : t.omol x < 4 := Nat.mod_lt _ (by decide)
  unfold Timer.ocAction
  simp only
  split
  next h => simp [pinAction, h]
  next h => simp +contextual [bit_setBit hk, pinAction, h]
  next h => simp [bit_setBit hk, pinAction, h]
  next h0 h1 h2 =>
    have h3 : t.omol x = 3 := by grind
    simp [bit_setBit hk, pinAction, h3]

theorem bit_oc1Action {k : Nat} (hk : k < 8) (t : Timer) :
    bit t.oc1Action.ocOut k = if bit t.oc1m k then bit t.oc1d k else bit t.ocOut k :=
  bit_blend hk _ _ _

/-! ### One compare -/

/-- A compare keeps what does not depend on TFLG1 and the compare levels. -/
theorem ocMatch_field {α : Type} (f : Timer → α)
    (hf : ∀ t g o, f { t with tflg1 := g, ocOut := o } = f t) (x : Nat) (reg : Word) (flag : Byte)
    (t : Timer) : f (t.ocMatch x reg flag) = f t := by
  obtain ⟨g, o, h⟩ := ocMatch_changes x reg flag t
  rw [h, hf]

section
variable (x : Nat) (reg : Word) (flag : Byte) (t : Timer)

@[simp] theorem ocMatch_tcnt : (t.ocMatch x reg flag).tcnt = t.tcnt :=
  ocMatch_field (·.tcnt) (fun _ _ _ => rfl) x reg flag t
@[simp] theorem ocMatch_toc1 : (t.ocMatch x reg flag).toc1 = t.toc1 :=
  ocMatch_field (·.toc1) (fun _ _ _ => rfl) x reg flag t
@[simp] theorem ocMatch_toc3 : (t.ocMatch x reg flag).toc3 = t.toc3 :=
  ocMatch_field (·.toc3) (fun _ _ _ => rfl) x reg flag t
@[simp] theorem ocMatch_toc4 : (t.ocMatch x reg flag).toc4 = t.toc4 :=
  ocMatch_field (·.toc4) (fun _ _ _ => rfl) x reg flag t
@[simp] theorem ocMatch_ti4o5 : (t.ocMatch x reg flag).ti4o5 = t.ti4o5 :=
  ocMatch_field (·.ti4o5) (fun _ _ _ => rfl) x reg flag t
@[simp] theorem ocMatch_oc1m : (t.ocMatch x reg flag).oc1m = t.oc1m :=
  ocMatch_field (·.oc1m) (fun _ _ _ => rfl) x reg flag t
@[simp] theorem ocMatch_oc1d : (t.ocMatch x reg flag).oc1d = t.oc1d :=
  ocMatch_field (·.oc1d) (fun _ _ _ => rfl) x reg flag t
@[simp] theorem ocMatch_oc5 : (t.ocMatch x reg flag).oc5 = t.oc5 :=
  ocMatch_field (·.oc5) (fun _ _ _ => rfl) x reg flag t
@[simp] theorem ocMatch_omol (y : Nat) : (t.ocMatch x reg flag).omol y = t.omol y :=
  ocMatch_field (·.omol y) (fun _ _ _ => rfl) x reg flag t

end

theorem bit_ocMatch_tflg1 (k x : Nat) (reg : Word) (flag : Byte) (t : Timer) :
    bit (t.ocMatch x reg flag).tflg1 k = (bit t.tflg1 k || (decide (t.tcnt = reg) && bit flag k)) := by
  unfold Timer.ocMatch
  split
  next h =>
    rw [ocAction_changes]
    simp [Timer.flag1, h]
  next h => simp [h]

theorem bit_ocMatch_ocOut {k : Nat} (hk : k < 8) (x : Nat) (reg : Word) (flag : Byte) (t : Timer) :
    bit (t.ocMatch x reg flag).ocOut k =
      if t.tcnt = reg ∧ k = 8 - x then pinAction (t.omol x) (bit t.ocOut k) else bit t.ocOut k := by
  unfold Timer.ocMatch
  split
  next h =>
    rw [bit_ocAction hk]
    simp only [h, true_and]
    rfl
  next h => simp [h]

/-! ### All compares of a count -/

/-- The compares of OC2 to OC5, before OC1's. -/
def pinCompares (t : Timer) : Timer :=
  let u := ((t.ocMatch 2 t.toc2 0x40).ocMatch 3 t.toc3 0x20).ocMatch 4 t.toc4 0x10
  if t.oc5 then u.ocMatch 5 t.ti4o5 0x08 else u

theorem compares_eq (t : Timer) :
    t.compares =
      if t.tcnt = t.toc1 then ((pinCompares t).flag1 0x80).oc1Action else pinCompares t := by
  unfold Timer.compares pinCompares
  simp only [ocMatch_toc3, ocMatch_toc4, ocMatch_oc5, ocMatch_ti4o5]
  cases h : t.oc5 <;> simp

theorem pinCompares_oc1m (t : Timer) : (pinCompares t).oc1m = t.oc1m := by
  unfold pinCompares
  cases h : t.oc5 <;> simp

theorem pinCompares_oc1d (t : Timer) : (pinCompares t).oc1d = t.oc1d := by
  unfold pinCompares
  cases h : t.oc5 <;> simp

/-- The compare behind each pin of port A: its pair OMx:OLx, its register, and whether it compares (10 R60,
60 R471). -/
def pinCompare (t : Timer) (k om : Nat) (reg : Word) (compares : Bool) : Prop :=
  (k, om, reg, compares) ∈
    [(7, 0, t.toc1, true), (6, t.tctl1.toNat / 64, t.toc2, true),
     (5, t.tctl1.toNat / 16 % 4, t.toc3, true), (4, t.tctl1.toNat / 4 % 4, t.toc4, true),
     (3, t.tctl1.toNat % 4, t.ti4o5, !bit t.pactl 2)]

/-- The flag that a compare sets is the one of its pin. -/
theorem bit_pinCompares_tflg1 (t : Timer) (k : Nat) :
    bit (pinCompares t).tflg1 k =
      (bit t.tflg1 k || (decide (t.tcnt = t.toc2) && bit 0x40 k) || (decide (t.tcnt = t.toc3) && bit 0x20 k) ||
        (decide (t.tcnt = t.toc4) && bit 0x10 k) || (t.oc5 && decide (t.tcnt = t.ti4o5) && bit 0x08 k)) := by
  unfold pinCompares
  cases h : t.oc5 <;> simp [bit_ocMatch_tflg1]

theorem bit_pinCompares_ocOut {k : Nat} (hk : k < 8) (t : Timer) :
    bit (pinCompares t).ocOut k =
      if k = 6 ∧ t.tcnt = t.toc2 then pinAction (t.omol 2) (bit t.ocOut k)
      else if k = 5 ∧ t.tcnt = t.toc3 then pinAction (t.omol 3) (bit t.ocOut k)
      else if k = 4 ∧ t.tcnt = t.toc4 then pinAction (t.omol 4) (bit t.ocOut k)
      else if k = 3 ∧ t.oc5 = true ∧ t.tcnt = t.ti4o5 then pinAction (t.omol 5) (bit t.ocOut k)
      else bit t.ocOut k := by
  unfold pinCompares
  cases h : t.oc5 <;>
    simp only [bit_ocMatch_ocOut hk, ocMatch_tcnt, ocMatch_omol, Bool.false_eq_true, if_true, if_false] <;>
    grind

/-- OC1 sets its flag after the others. -/
theorem bit_compares_tflg1_all (t : Timer) (k : Nat) :
    bit t.compares.tflg1 k =
      (bit (pinCompares t).tflg1 k || (decide (t.tcnt = t.toc1) && bit 0x80 k)) := by
  rw [compares_eq]
  split
  next hc => simp [Timer.oc1Action, Timer.flag1, hc]
  next hc => simp [hc]

/-- The compares set none of the flags of IC1 to IC3. -/
theorem compares_tflg1_captures (t : Timer) : t.compares.tflg1 &&& 0x07 = t.tflg1 &&& 0x07 := by
  apply eq_of_bits
  intro k hk
  rw [bit_and, bit_and, bit_compares_tflg1_all, bit_pinCompares_tflg1]
  interval_cases k <;> simp

/-- A compare that is reached sets its flag (60 R471). -/
theorem bit_compares_tflg1 {t : Timer} {k om : Nat} {reg : Word} {compares : Bool}
    (h : pinCompare t k om reg compares) :
    bit t.compares.tflg1 k = (bit t.tflg1 k || (compares && decide (t.tcnt = reg))) := by
  rw [bit_compares_tflg1_all, bit_pinCompares_tflg1]
  repeat' rcases h with _ | ⟨_, h⟩
  all_goals simp [Timer.oc5]

/-- A compare that is reached takes its pin action, OC1's last (60 R471). -/
theorem bit_compares_ocOut {t : Timer} {k om : Nat} {reg : Word} {compares : Bool}
    (h : pinCompare t k om reg compares) :
    bit t.compares.ocOut k =
      if t.tcnt = t.toc1 ∧ bit t.oc1m k = true then bit t.oc1d k
      else if compares = true ∧ t.tcnt = reg then pinAction om (bit t.ocOut k)
      else bit t.ocOut k := by
  have hk : k < 8 := by
    repeat' rcases h with _ | ⟨_, h⟩
    all_goals decide
  have all : bit t.compares.ocOut k =
      if t.tcnt = t.toc1 ∧ bit t.oc1m k = true then bit t.oc1d k else bit (pinCompares t).ocOut k := by
    rw [compares_eq]
    split
    next hc =>
      rw [bit_oc1Action hk]
      simp [Timer.flag1, hc, pinCompares_oc1m, pinCompares_oc1d]
    next hc => simp [hc]
  rw [all, bit_pinCompares_ocOut hk]
  repeat' rcases h with _ | ⟨_, h⟩
  all_goals simp [omol_two, omol_three, omol_four, omol_five, pinAction_zero, Timer.oc5]

/-! ### The count -/

theorem prescale_eq {t : Timer} {pr p : Nat} (h : (pr, p) ∈ [(0, 1), (1, 4), (2, 8), (3, 16)])
    (hpr : t.tmsk2.toNat % 4 = pr) : t.prescale = p := by
  unfold Timer.prescale
  rw [hpr]
  repeat' rcases h with _ | ⟨_, h⟩
  all_goals rfl

theorem bit_flag2 (mask : Byte) (t : Timer) (k : Nat) :
    bit (t.flag2 mask).tflg2 k = (bit t.tflg2 k || bit mask k) :=
  bit_or _ _ _

/-- The timer after a count and before its compares: TOF is set at the wrap (60 R470). -/
def counted (t : Timer) : Timer :=
  let u : Timer := { t with phase := 0, tcnt := t.tcnt + 1 }
  if t.tcnt + 1 = 0 then u.flag2 0x80 else u

theorem increment_eq (t : Timer) : t.increment = (counted t).compares := rfl

theorem increment_counts (t : Timer) : t.increment.tcnt = t.tcnt + 1 ∧ t.increment.phase = 0 := by
  obtain ⟨_, _, _, h⟩ := increment_changes t
  rw [h]
  exact ⟨rfl, rfl⟩

/-- What the compares of a count see. -/
theorem pinCompare_counted {t : Timer} {k om : Nat} {reg : Word} {compares : Bool}
    (h : pinCompare t k om reg compares) : pinCompare (counted t) k om reg compares := by
  unfold counted
  split <;> exact h

theorem bit_increment_tflg2 (t : Timer) (k : Nat) :
    bit t.increment.tflg2 k = (bit t.tflg2 k || (decide (t.tcnt + 1 = 0) && bit 0x80 k)) := by
  obtain ⟨_, _, h⟩ := compares_changes (counted t)
  rw [increment_eq, h]
  unfold counted
  split
  next hw =>
    rw [decide_eq_true hw, Bool.true_and]
    exact bit_flag2 _ _ k
  next hw => simp only [decide_eq_false hw, Bool.false_and, Bool.or_false]

theorem bit_increment_tflg1 {t : Timer} {k om : Nat} {reg : Word} {compares : Bool}
    (h : pinCompare t k om reg compares) :
    bit t.increment.tflg1 k = (bit t.tflg1 k || (compares && decide (t.tcnt + 1 = reg))) := by
  rw [increment_eq, bit_compares_tflg1 (pinCompare_counted h)]
  unfold counted
  split <;> rfl

theorem increment_tflg1_captures (t : Timer) : t.increment.tflg1 &&& 0x07 = t.tflg1 &&& 0x07 := by
  rw [increment_eq, compares_tflg1_captures]
  unfold counted
  split <;> rfl

theorem bit_increment_ocOut {t : Timer} {k om : Nat} {reg : Word} {compares : Bool}
    (h : pinCompare t k om reg compares) :
    bit t.increment.ocOut k =
      if t.tcnt + 1 = t.toc1 ∧ bit t.oc1m k = true then bit t.oc1d k
      else if compares = true ∧ t.tcnt + 1 = reg then pinAction om (bit t.ocOut k)
      else bit t.ocOut k := by
  rw [increment_eq, bit_compares_ocOut (pinCompare_counted h)]
  unfold counted
  split <;> rfl

/-- The timer but for what the real-time interrupt and the gated pulse accumulator change: their own flags,
PACNT and its divider. -/
def countPart (t : Timer) : Timer × Bool :=
  ({ t with tflg2 := 0, paPhase := 0, pacnt := 0 }, bit t.tflg2 7)

/-- What depends on that part only is the same where the part is. -/
theorem countPart_field {α : Type} {t u : Timer} (f : Timer → α) (hf : ∀ t, f (countPart t).1 = f t)
    (h : countPart t = countPart u) : f t = f u := by
  rw [← hf t, h, hf u]

theorem countPart_setPhase {t u : Timer} (n : Nat) (h : countPart t = countPart u) :
    countPart { t with phase := n } = countPart { u with phase := n } :=
  congrArg (fun c : Timer × Bool => ({ c.1 with phase := n }, c.2)) h

theorem countPart_rti (n : Nat) (t : Timer) : countPart (t.rti n) = countPart t := by
  unfold Timer.rti
  split
  · simp [countPart, Timer.flag2]
  · rfl

theorem countPart_paGate (pai : Bool) (t : Timer) : countPart (t.paGate pai) = countPart t := by
  unfold Timer.paGate
  split
  · split
    · rfl
    · unfold Timer.paCount
      simp only
      split
      · simp [countPart, Timer.flag2]
      · rfl
  · rfl

/-- In that part the timer's cycle is a step of the prescaler. -/
theorem countPart_tick (n : Nat) (pai : Bool) (t : Timer) : countPart (t.tick n pai) = countPart t.count := by
  rw [Timer.tick, countPart_paGate, countPart_rti]

/-- While the prescaler has not come round, cycles move its phase only. -/
theorem countPart_advance {n : Nat} {s : State} (h : s.timer.phase + n < s.timer.prescale) :
    countPart (advance n s).timer = countPart { s.timer with phase := s.timer.phase + n } := by
  induction n with
  | zero => rfl
  | succ n ih =>
    have hw := ih (by omega)
    have hphase := countPart_field (·.phase) (fun _ => rfl) hw
    have hprescale := countPart_field Timer.prescale (fun _ => rfl) hw
    have hcount : (advance n s).timer.count =
        { (advance n s).timer with phase := s.timer.phase + (n + 1) } := by
      unfold Timer.count
      rw [if_pos, hphase]
      · rfl
      · rw [hphase, hprescale]
        exact h
    rw [advance_succ, tick_timer, countPart_tick, hcount]
    exact (countPart_setPhase (s.timer.phase + (n + 1)) hw).trans rfl

/-- The cycle in which the prescaler comes round is a count, in that part. -/
theorem countPart_tick_count {s : State} (h : s.timer.prescale ≤ s.timer.phase + 1) :
    countPart (tick s).timer = countPart s.timer.increment := by
  rw [tick_timer, countPart_tick, Timer.count, if_neg (Nat.not_lt.2 h)]

/-- From whatever phase, the prescaler has come round after `m + 1` cycles. -/
structure ComesRound (s : State) (m : Nat) : Prop where
  waits : m = 0 ∨ s.timer.phase + m < s.timer.prescale
  round : s.timer.prescale ≤ s.timer.phase + m + 1

theorem comesRound_max (s : State) : ComesRound s (max 1 (s.timer.prescale - s.timer.phase) - 1) :=
  ⟨by omega, by omega⟩

theorem countPart_waits {s : State} {n : Nat} (h : n = 0 ∨ s.timer.phase + n < s.timer.prescale) :
    countPart (advance n s).timer = countPart { s.timer with phase := s.timer.phase + n } := by
  rcases h with rfl | h
  · rfl
  · exact countPart_advance h

/-- The count that the timer reaches then is the next one, with its compares, in that part. -/
theorem countPart_comesRound {s : State} {m : Nat} (h : ComesRound s m) :
    countPart (advance (m + 1) s).timer = countPart (advance m s).timer.increment := by
  have hw := countPart_waits h.waits
  have hphase := countPart_field (·.phase) (fun _ => rfl) hw
  have hprescale := countPart_field Timer.prescale (fun _ => rfl) hw
  rw [advance_succ]
  apply countPart_tick_count
  rw [hphase, hprescale]
  exact h.round

/-- A wait keeps the count, the flags of the compares and the compare levels. -/
theorem waits_keeps {s : State} {n : Nat} (h : n = 0 ∨ s.timer.phase + n < s.timer.prescale) :
    (advance n s).timer.tcnt = s.timer.tcnt ∧ (advance n s).timer.tflg1 = s.timer.tflg1 ∧
      (advance n s).timer.ocOut = s.timer.ocOut ∧
      bit (advance n s).timer.tflg2 7 = bit s.timer.tflg2 7 := by
  have hw := countPart_waits h
  have htcnt := countPart_field (·.tcnt) (fun _ => rfl) hw
  have htflg1 := countPart_field (·.tflg1) (fun _ => rfl) hw
  have hocOut := countPart_field (·.ocOut) (fun _ => rfl) hw
  exact ⟨htcnt, htflg1, hocOut, congrArg Prod.snd hw⟩

theorem add_one_eq_zero_iff (w : Word) : w + 1 = 0 ↔ w = 0xFFFF := by
  constructor <;> intro h <;> bv_omega

/-- TCNT goes up, the prescaler starts again, and TOF is set at the wrap (60 R470). -/
theorem comesRound_counts {s : State} {m : Nat} (h : ComesRound s m) :
    (advance (m + 1) s).timer.tcnt = s.timer.tcnt + 1 ∧ (advance (m + 1) s).timer.phase = 0 ∧
      bit (advance (m + 1) s).timer.tflg2 7 =
        (bit s.timer.tflg2 7 || decide (s.timer.tcnt = 0xFFFF)) ∧
      (advance (m + 1) s).timer.tflg1 &&& 0x07 = s.timer.tflg1 &&& 0x07 := by
  have hr := countPart_comesRound h
  obtain ⟨htcnt, htflg1, _, htflg2⟩ := waits_keeps h.waits
  obtain ⟨hcount, hphase⟩ := increment_counts (advance m s).timer
  refine ⟨?_, (countPart_field (·.phase) (fun _ => rfl) hr).trans hphase, ?_, ?_⟩
  · rw [countPart_field (·.tcnt) (fun _ => rfl) hr, hcount, htcnt]
  · have hbit : bit (advance (m + 1) s).timer.tflg2 7 = bit (advance m s).timer.increment.tflg2 7 :=
      congrArg Prod.snd hr
    rw [hbit, bit_increment_tflg2, htflg2, htcnt]
    simp only [add_one_eq_zero_iff]
    simp
  · rw [countPart_field (·.tflg1) (fun _ => rfl) hr, increment_tflg1_captures, htflg1]

/-- A compare that the count reaches sets its flag and takes its action, OC1's last (60 R471). -/
theorem comesRound_compares {s : State} {m k om : Nat} {reg : Word} {compares : Bool}
    (h : ComesRound s m) (hc : pinCompare s.timer k om reg compares) :
    bit (advance (m + 1) s).timer.tflg1 k =
        (bit s.timer.tflg1 k || (compares && decide (s.timer.tcnt + 1 = reg))) ∧
      bit (advance (m + 1) s).timer.ocOut k =
        if s.timer.tcnt + 1 = s.timer.toc1 ∧ bit s.timer.oc1m k = true then bit s.timer.oc1d k
        else if compares = true ∧ s.timer.tcnt + 1 = reg then pinAction om (bit s.timer.ocOut k)
        else bit s.timer.ocOut k := by
  have hr := countPart_comesRound h
  have hw := countPart_waits h.waits
  obtain ⟨htcnt, htflg1, hocOut, _⟩ := waits_keeps h.waits
  have hc' : pinCompare (advance m s).timer k om reg compares := by
    rw [countPart_field (pinCompare · k om reg compares) (fun _ => rfl) hw]
    exact hc
  have htoc1 := countPart_field (·.toc1) (fun _ => rfl) hw
  have hoc1m := countPart_field (·.oc1m) (fun _ => rfl) hw
  have hoc1d := countPart_field (·.oc1d) (fun _ => rfl) hw
  constructor
  · rw [countPart_field (·.tflg1) (fun _ => rfl) hr, bit_increment_tflg1 hc', htflg1, htcnt]
  · rw [countPart_field (·.ocOut) (fun _ => rfl) hr, bit_increment_ocOut hc', htcnt, hocOut, htoc1,
      hoc1m, hoc1d]

/-! ### Gated pulse accumulator and real-time interrupt -/

/-- Before the accumulator and the real-time interrupt, a cycle changes TOF only of TFLG2. -/
theorem count_accumulator (t : Timer) :
    t.count.pactl = t.pactl ∧ t.count.paPhase = t.paPhase ∧ t.count.pacnt = t.pacnt ∧
      ∀ k, k < 7 → bit t.count.tflg2 k = bit t.tflg2 k := by
  unfold Timer.count
  split
  · exact ⟨rfl, rfl, rfl, fun _ _ => rfl⟩
  · obtain ⟨_, _, _, h⟩ := increment_changes t
    refine ⟨by rw [h], by rw [h], by rw [h], fun k hk => ?_⟩
    rw [bit_increment_tflg2]
    interval_cases k <;> simp

theorem bit_rti (n k : Nat) (t : Timer) :
    bit (t.rti n).tflg2 k = (bit t.tflg2 k || (decide (n % t.rtiPeriod = 0) && bit 0x40 k)) := by
  unfold Timer.rti
  split
  next h => rw [bit_flag2, decide_eq_true h, Bool.true_and]
  next h => rw [decide_eq_false h, Bool.false_and, Bool.or_false]

theorem rti_accumulator (n : Nat) (t : Timer) :
    (t.rti n).pactl = t.pactl ∧ (t.rti n).paPhase = t.paPhase ∧ (t.rti n).pacnt = t.pacnt := by
  rw [rti_changes]
  exact ⟨rfl, rfl, rfl⟩

/-- The gate is open: gated mode, at the enabling level of PAI (60 R477). -/
def gateOpen (pai : Bool) (t : Timer) : Bool := bit t.pactl 6 && bit t.pactl 5 && (pai != bit t.pactl 4)

theorem paGate_closed {pai : Bool} {t : Timer} (h : gateOpen pai t = false) : t.paGate pai = t := by
  unfold gateOpen at h
  simp only [Timer.paGate, h, Bool.false_eq_true, if_false]

theorem paGate_waits {pai : Bool} {t : Timer} (h : gateOpen pai t = true) (hp : t.paPhase < 63) :
    t.paGate pai = { t with paPhase := t.paPhase + 1 } := by
  unfold gateOpen at h
  simp only [Timer.paGate, h, if_true, show t.paPhase + 1 < 64 by omega]

theorem paGate_counts {pai : Bool} {t : Timer} (h : gateOpen pai t = true) (hp : 63 ≤ t.paPhase) :
    t.paGate pai = ({ t with paPhase := 0 } : Timer).paCount := by
  unfold gateOpen at h
  simp only [Timer.paGate, h, if_true, show ¬ t.paPhase + 1 < 64 by omega, if_false]

theorem bit_paCount (k : Nat) (t : Timer) :
    bit t.paCount.tflg2 k = (bit t.tflg2 k || (decide (t.pacnt = 0xFF) && bit 0x20 k)) := by
  have wrap : t.pacnt + 1 = 0 ↔ t.pacnt = 0xFF := by
    constructor <;> intro h <;> bv_omega
  unfold Timer.paCount
  simp only
  split
  next h => rw [bit_flag2, decide_eq_true (wrap.1 h), Bool.true_and]
  next h => rw [decide_eq_false (mt wrap.2 h), Bool.false_and, Bool.or_false]

theorem paCount_counts (t : Timer) : t.paCount.paPhase = t.paPhase ∧ t.paCount.pacnt = t.pacnt + 1 := by
  unfold Timer.paCount
  simp only
  split <;> exact ⟨rfl, rfl⟩

/-- What the gated accumulator sees in a cycle is what it saw before it. -/
theorem tick_gate (s : State) : ∃ t : Timer,
    (tick s).timer = t.paGate (bit s.env.pins.pa 7) ∧ t.pactl = s.timer.pactl ∧
      t.paPhase = s.timer.paPhase ∧ t.pacnt = s.timer.pacnt ∧
      bit t.tflg2 5 = bit s.timer.tflg2 5 ∧
      bit t.tflg2 6 = (bit s.timer.tflg2 6 || decide ((s.cycles + 1) % s.timer.rtiPeriod = 0)) := by
  obtain ⟨hpactl, hphase, hpacnt, hbits⟩ := count_accumulator s.timer
  obtain ⟨hpactl', hphase', hpacnt'⟩ := rti_accumulator (s.cycles + 1) s.timer.count
  have hperiod : s.timer.count.rtiPeriod = s.timer.rtiPeriod := by rw [Timer.rtiPeriod, hpactl]; rfl
  refine ⟨_, tick_timer s, hpactl'.trans hpactl, hphase'.trans hphase, hpacnt'.trans hpacnt, ?_, ?_⟩
  · rw [bit_rti, hbits 5 (by decide)]
    simp
  · rw [bit_rti, hbits 6 (by decide), hperiod]
    simp

theorem bit_paGate_rtif (pai : Bool) (t : Timer) : bit (t.paGate pai).tflg2 6 = bit t.tflg2 6 := by
  cases hg : gateOpen pai t
  · rw [paGate_closed hg]
  · by_cases hp : t.paPhase < 63
    · rw [paGate_waits hg hp]
    · rw [paGate_counts hg (Nat.not_lt.1 hp), bit_paCount]
      simp

/-- RTIF is set at each multiple of its period (60 R474). -/
theorem tick_rtif (s : State) :
    bit (tick s).timer.tflg2 6 =
      (bit s.timer.tflg2 6 || decide ((s.cycles + 1) % s.timer.rtiPeriod = 0)) := by
  obtain ⟨t, ht, _, _, _, _, hrtif⟩ := tick_gate s
  rw [ht, bit_paGate_rtif, hrtif]

/-! ### CFORC -/

/-- One forced pin action (10 R53). -/
def forcePin (c : Bool) (x : Nat) (t : Timer) : Timer := if c then t.ocAction x else t

/-- A forced pin action changes the compare levels only. -/
theorem forcePin_changes (c : Bool) (x : Nat) (t : Timer) :
    forcePin c x t = { t with ocOut := (forcePin c x t).ocOut } := by
  cases c
  · rfl
  · exact ocAction_changes x t

theorem bit_forcePin {k : Nat} (hk : k < 8) (c : Bool) (x : Nat) (t : Timer) :
    bit (forcePin c x t).ocOut k =
      if c = true ∧ k = 8 - x then pinAction (t.omol x) (bit t.ocOut k) else bit t.ocOut k := by
  cases c
  · simp [forcePin]
  · simp [forcePin, bit_ocAction hk]

theorem forcePin_omol (c : Bool) (x y : Nat) (t : Timer) : (forcePin c x t).omol y = t.omol y := by
  rw [forcePin_changes]
  rfl

/-- The forced actions of OC2 to OC5, before OC1's. -/
def forcePins (v : Byte) (t : Timer) : Timer :=
  forcePin (bit v 3 && t.oc5) 5 (forcePin (bit v 4) 4 (forcePin (bit v 5) 3 (forcePin (bit v 6) 2 t)))

theorem forcePins_changes (v : Byte) (t : Timer) :
    forcePins v t = { t with ocOut := (forcePins v t).ocOut } := by
  unfold forcePins
  rw [forcePin_changes, forcePin_changes (bit v 4), forcePin_changes (bit v 5), forcePin_changes (bit v 6)]

theorem force_eq (v : Byte) (t : Timer) :
    t.force v = if bit v 7 then (forcePins v t).oc1Action else forcePins v t := by
  have hoc5 : (forcePin (bit v 4) 4 (forcePin (bit v 5) 3 (forcePin (bit v 6) 2 t))).oc5 = t.oc5 := by
    rw [forcePin_changes, forcePin_changes (bit v 5), forcePin_changes (bit v 6)]
    rfl
  unfold forcePins
  rw [← hoc5]
  rfl

/-- CFORC changes the compare levels only. -/
theorem force_changes (v : Byte) (t : Timer) : t.force v = { t with ocOut := (t.force v).ocOut } := by
  rw [force_eq, forcePins_changes]
  split <;> rfl

theorem bit_forcePins {k : Nat} (hk : k < 8) (v : Byte) (t : Timer) :
    bit (forcePins v t).ocOut k =
      if k = 6 ∧ bit v 6 = true then pinAction (t.omol 2) (bit t.ocOut k)
      else if k = 5 ∧ bit v 5 = true then pinAction (t.omol 3) (bit t.ocOut k)
      else if k = 4 ∧ bit v 4 = true then pinAction (t.omol 4) (bit t.ocOut k)
      else if k = 3 ∧ bit v 3 = true ∧ t.oc5 = true then pinAction (t.omol 5) (bit t.ocOut k)
      else bit t.ocOut k := by
  simp only [forcePins, bit_forcePin hk, forcePin_omol]
  grind

/-- CFORC takes the pin actions of the compares it names, OC1's last (10 R53, 60 R471). -/
theorem bit_force {v : Byte} {t : Timer} {k om : Nat} (h : pinMode t k om) :
    bit (t.force v).ocOut k =
      if bit v 7 = true ∧ bit t.oc1m k = true then bit t.oc1d k
      else if bit v k = true then pinAction om (bit t.ocOut k)
      else bit t.ocOut k := by
  have hk : k < 8 := by
    repeat' rcases h with _ | ⟨_, h⟩
    all_goals decide
  have hoc1m : (forcePins v t).oc1m = t.oc1m := by rw [forcePins_changes]
  have hoc1d : (forcePins v t).oc1d = t.oc1d := by rw [forcePins_changes]
  have all : bit (t.force v).ocOut k =
      if bit v 7 = true ∧ bit t.oc1m k = true then bit t.oc1d k else bit (forcePins v t).ocOut k := by
    rw [force_eq]
    split
    next hv => simp [bit_oc1Action hk, hv, hoc1m, hoc1d]
    next hv => simp [hv]
  rw [all, bit_forcePins hk]
  repeat' rcases h with _ | ⟨_, h⟩
  case tail.tail.tail.tail.head =>
    cases hi : bit t.pactl 2 <;> simp [omol_five, pinAction_zero, Timer.oc5, hi]
  all_goals simp [omol_two, omol_three, omol_four, pinAction_zero]

/-! ### The statement -/

/-- COPRST: $55 arms the watchdog, $AA serves an armed one, nothing else acts (10 R82, 60 R475). -/
theorem writeCoprst_cases (v : Byte) (s : State) :
    (v = 0x55 → writeCoprst v s = { s with cop := { s.cop with armed := true } }) ∧
      (v = 0xAA → s.cop.armed = true → writeCoprst v s = { s with cop := { armed := false, count := 0 } }) ∧
      (v ≠ 0x55 → v ≠ 0xAA ∨ s.cop.armed = false → writeCoprst v s = s) := by
  refine ⟨?_, ?_, ?_⟩
  · rintro rfl
    rfl
  · rintro rfl h
    simp [writeCoprst, h]
  · intro hv h
    rw [writeCoprst, if_neg hv, if_neg]
    rintro ⟨haa, harmed⟩
    exact h.elim (absurd haa) fun hidle => by simp [harmed] at hidle

theorem write_coprst {s : State} {a : Word} (v : Byte) (h : resolve s a = .reg 0x3A) :
    writeByte a v s = writeCoprst v s :=
  writeByte_of_reg v h

theorem write_cforc {s : State} {a : Word} (v : Byte) (h : resolve s a = .reg 0x0B) :
    writeByte a v s = { s with timer := s.timer.force v } :=
  writeByte_of_reg v h

/-- Settles O53: the count, the gated accumulator, the two watch timers, and the writes of COPRST and CFORC. -/
theorem timersCount : Obligations.TimersCount := by
  refine ⟨?count, ?gate, ?watch, ?writes⟩
  case count =>
    intro s t pr p hlist hpr
    obtain rfl := prescale_eq hlist hpr
    refine ⟨?_, ?_⟩
    · rintro n hn rfl
      exact waits_keeps (by omega)
    · have hround := comesRound_max s
      rw [show max 1 (s.timer.prescale - s.timer.phase) =
        max 1 (s.timer.prescale - s.timer.phase) - 1 + 1 by omega]
      rintro rfl
      obtain ⟨htcnt, hphase, htof, hcaptures⟩ := comesRound_counts hround
      exact ⟨htcnt, hphase, htof, hcaptures, fun k om reg compares hc => comesRound_compares hround hc⟩
  case gate =>
    rintro s _ gate rfl hgate
    obtain ⟨t, ht, hpactl, hphase, hpacnt, hpaovf, _⟩ := tick_gate s
    have hopen : gateOpen (bit s.env.pins.pa 7) t = gate := by rw [gateOpen, hpactl, hgate]
    rw [ht, ← hphase, ← hpacnt, ← hpaovf, ← hopen]
    refine ⟨fun hg hp => ?_, fun hg hp => ?_, fun hg => ?_, fun hg => ?_⟩
    · rw [paGate_waits hg hp]
    · obtain ⟨hzero, hcount⟩ := paCount_counts { t with paPhase := 0 }
      rw [paGate_counts hg hp]
      exact ⟨hzero, hcount, by rw [bit_paCount]; simp⟩
    · rw [paGate_closed hg]
    · cases hopen' : gateOpen (bit s.env.pins.pa 7) t
      · rw [paGate_closed hopen']
        exact ⟨rfl, rfl⟩
      · rw [paGate_waits hopen' (hg.resolve_left (by simp [hopen']))]
        exact ⟨rfl, rfl⟩
  case watch =>
    intro s
    refine ⟨?_, tick_copFail s⟩
    rw [tick_rtif, Timer.rtiPeriod, Nat.pow_add]
  case writes =>
    rintro s _ a v rfl
    refine ⟨fun h => ?_, fun h => ?_⟩
    · rw [write_coprst v h]
      exact writeCoprst_cases v s
    · rw [write_cforc v h]
      exact ⟨by rw [← force_changes], fun k om hm => bit_force hm⟩

end Sys2Proof.Proofs
end

section
/-! SUPPORT.
The SCI as rules: reception, wake-up, an idle line, what a free shift register takes, and the end of a frame.
Settles O58.
-/

namespace Sys2Proof.Proofs

open Sys2Proof.Machine Sys2Proof.Laws

/-! ### Reception -/

theorem receive_overrun {c : Sci} (d : Byte) (n f z : Bool) (h : bit c.scsr 5 = true) :
    c.receive d n f z = { c with scsr := c.scsr ||| 0x08 } := by
  simp [Sci.receive, h]

theorem receive_free {c : Sci} (d : Byte) (n f z : Bool) (h : bit c.scsr 5 = false) :
    c.receive d n f z =
      { c with
        rdr := d
        sccr1 := if bit c.sccr1 4 then setBit c.sccr1 7 n else c.sccr1
        scsr := c.scsr ||| 0x20 ||| bitAt 2 z ||| bitAt 1 (!f) } := by
  unfold Sci.receive
  rw [if_neg (by simp [h])]
  rfl

/-- Nothing is received while RE = 0 (60 R481). -/
theorem rx_disabled {c : Sci} (d : Byte) (n f z : Bool) (h : bit c.sccr2 2 = false) :
    c.rx d n f z = c := by
  simp [Sci.rx, h]

theorem rx_awake {c : Sci} (d : Byte) (n f z : Bool) (hre : bit c.sccr2 2 = true)
    (hrwu : bit c.sccr2 1 = false) :
    c.rx d n f z = ({ c with rxActive := true } : Sci).receive d n f z := by
  simp [Sci.rx, hre, hrwu]

/-- The most significant data bit of a character, the ninth where M = 1 (log 24). -/
def topBit (c : Sci) (d : Byte) (n : Bool) : Bool := if bit c.sccr1 4 then n else bit d 7

/-- A receiver with RWU set receives the character that wakes it and drops the others. -/
theorem rx_asleep {c : Sci} (d : Byte) (n f z : Bool) (hre : bit c.sccr2 2 = true)
    (hrwu : bit c.sccr2 1 = true) :
    c.rx d n f z =
      if bit c.sccr1 3 && topBit c d n then
        ({ c with rxActive := true, sccr2 := setBit c.sccr2 1 false } : Sci).receive d n f z
      else { c with rxActive := true } := by
  unfold Sci.rx
  rw [if_neg (by simp [hre]), if_pos hrwu]
  rfl

theorem rx_lost {c : Sci} {d : Byte} {n : Bool} (f z : Bool) (hre : bit c.sccr2 2 = true)
    (hrwu : bit c.sccr2 1 = true) (h : bit c.sccr1 3 = false ∨ topBit c d n = false) :
    c.rx d n f z = { c with rxActive := true } := by
  rw [rx_asleep d n f z hre hrwu, if_neg]
  rcases h with h | h <;> simp [h]

theorem rx_marked {c : Sci} {d : Byte} {n : Bool} (f z : Bool) (hre : bit c.sccr2 2 = true)
    (hrwu : bit c.sccr2 1 = true) (hwake : bit c.sccr1 3 = true) (htop : topBit c d n = true) :
    c.rx d n f z =
      ({ c with rxActive := true, sccr2 := setBit c.sccr2 1 false } : Sci).receive d n f z := by
  rw [rx_asleep d n f z hre hrwu, hwake, htop]
  rfl

/-- Clearing RWU. -/
theorem setBit_one_false (x : Byte) : setBit x 1 false = x &&& 0xFD := by
  apply eq_of_bits
  intro k hk
  rw [bit_setBit hk, bit_and]
  interval_cases k <;> simp

/-- Setting a bit that is set already. -/
theorem setBit_self {x : Byte} {j : Nat} {v : Bool} (h : bit x j = v) : setBit x j v = x := by
  apply eq_of_bits
  intro k hk
  rw [bit_setBit hk]
  split
  next hkj => rw [hkj, h]
  next => rfl

/-- A character that ends a sleep is received as by a receiver that is awake. -/
theorem rx_wakes {c : Sci} {d : Byte} {n : Bool} (f z : Bool) (hre : bit c.sccr2 2 = true)
    (hrwu : bit c.sccr2 1 = true) (hwake : bit c.sccr1 3 = true) (htop : topBit c d n = true) :
    c.rx d n f z = ({ c with sccr2 := c.sccr2 &&& 0xFD } : Sci).rx d n f z := by
  rw [rx_marked f z hre hrwu hwake htop, setBit_one_false, rx_awake d n f z]
  · simp [hre]
  · simp

/-! ### Idle line -/

theorem idle_awake {c : Sci} (hre : bit c.sccr2 2 = true) (hrwu : bit c.sccr2 1 = false) :
    c.idle = { c with
      rxActive := false, scsr := if c.rxActive then c.scsr ||| 0x10 else c.scsr } := by
  simp [Sci.idle, hre, hrwu]

theorem idle_asleep {c : Sci} (hre : bit c.sccr2 2 = true) (hrwu : bit c.sccr2 1 = true) :
    c.idle = { c with
      rxActive := false, sccr2 := if bit c.sccr1 3 then c.sccr2 else c.sccr2 &&& 0xFD } := by
  have hsccr2 : setBit c.sccr2 1 (bit c.sccr1 3) =
      if bit c.sccr1 3 then c.sccr2 else c.sccr2 &&& 0xFD := by
    cases bit c.sccr1 3
    · exact setBit_one_false _
    · exact setBit_self hrwu
  simp [Sci.idle, hre, hrwu, hsccr2]

theorem idle_disabled {c : Sci} (h : bit c.sccr2 2 = false) : c.idle = c := by
  simp [Sci.idle, h]

/-! ### Transmission -/

/-- Something waits to be sent: a break, a preamble or a character. -/
def sciWaits (c : Sci) : Prop := bit c.sccr2 0 = true ∨ c.preamble = true ∨ c.tdrFull = true

theorem start_break {c : Sci} (hte : bit c.sccr2 3 = true) (hsbk : bit c.sccr2 0 = true) :
    c.start = c.load .breakCode := by
  simp [Sci.start, hte, hsbk]

theorem start_preamble {c : Sci} (hte : bit c.sccr2 3 = true) (hsbk : bit c.sccr2 0 = false)
    (hp : c.preamble = true) :
    c.start = ({ c with preamble := false } : Sci).load .preamble := by
  simp [Sci.start, hte, hsbk, hp]

theorem start_char {c : Sci} (hte : bit c.sccr2 3 = true) (hsbk : bit c.sccr2 0 = false)
    (hp : c.preamble = false) (hf : c.tdrFull = true) :
    c.start = ({ c with tdrFull := false, scsr := c.scsr ||| 0x80 } : Sci).load
      (.char c.tdr (if c.nine then some (bit c.sccr1 6) else none)) := by
  simp [Sci.start, hte, hsbk, hp, hf]

/-- With nothing to send, or TE = 0, the shift register stays free (10 R73). -/
theorem start_rests {c : Sci} (h : bit c.sccr2 3 = false ∨
    (bit c.sccr2 0 = false ∧ c.preamble = false ∧ c.tdrFull = false)) : c.start = c := by
  rcases h with h | ⟨hsbk, hp, hf⟩
  · simp [Sci.start, h]
  · simp [Sci.start, hsbk, hp, hf]

/-- What waits is taken, and its cycles are counted (60 R480). -/
theorem start_takes {c : Sci} (hte : bit c.sccr2 3 = true) (h : sciWaits c) :
    c.start.left = c.frameTime ∧ c.start.frame ≠ none := by
  cases hsbk : bit c.sccr2 0
  · cases hp : c.preamble
    · rw [start_char hte hsbk hp (by simpa [sciWaits, hsbk, hp] using h)]
      exact ⟨rfl, by simp [Sci.load]⟩
    · rw [start_preamble hte hsbk hp]
      exact ⟨rfl, by simp [Sci.load]⟩
  · rw [start_break hte hsbk]
    exact ⟨rfl, by simp [Sci.load]⟩

theorem frameTime_eq {c : Sci} {scp p : Nat} (h : (scp, p) ∈ [(0, 1), (1, 3), (2, 4), (3, 13)])
    (hscp : c.baud.toNat / 16 % 4 = scp) :
    c.frameTime = 16 * p * 2 ^ (c.baud.toNat % 8) * (if bit c.sccr1 4 then 11 else 10) := by
  unfold Sci.frameTime Sci.bitTime Sci.nine
  rw [hscp]
  repeat' rcases h with _ | ⟨_, h⟩
  all_goals rfl

theorem tick_sci_free {s : State} (h : s.sci.frame = none) : (tick s).sci = s.sci.start := by
  rw [tick_sci, Sci.tick, h]

theorem tick_sci_last {s : State} {f : TxFrame} (h : s.sci.frame = some f) (hl : s.sci.left = 1) :
    (tick s).sci = s.sci.endFrame := by
  rw [tick_sci, Sci.tick, h, hl]
  rfl

/-- Before its last cycle a frame only runs on. -/
theorem advance_sci {n : Nat} {s : State} {f : TxFrame} (hf : s.sci.frame = some f)
    (h : n < s.sci.left) : (advance n s).sci = { s.sci with left := s.sci.left - n } := by
  induction n with
  | zero => rfl
  | succ n ih =>
    have hn := ih (by omega)
    have hlong : 1 < s.sci.left - n := by omega
    rw [advance_succ, tick_sci, hn]
    simp [Sci.tick, hf, hlong]
    omega

/-- After its last cycle a frame is an output (60 R480). -/
theorem advance_frame_output {s : State} {f : TxFrame} {o : Output} (hf : s.sci.frame = some f)
    (hl : 0 < s.sci.left) (ho : o ∈ f.output) : o ∈ (advance s.sci.left s).env.outputs := by
  obtain ⟨n, hn⟩ : ∃ n, s.sci.left = n + 1 := ⟨s.sci.left - 1, by omega⟩
  have hlast := advance_sci hf (n := n) (by omega)
  have hsent : (advance n s).sci.tick.2 = f.output := by
    rw [hlast]
    simp [Sci.tick, hf, hn]
  rw [hn, advance_succ, tick_outputs, hsent]
  simp [ho]

theorem endFrame_rests {c : Sci} (h : bit c.sccr2 3 = false ∨
    (bit c.sccr2 0 = false ∧ c.preamble = false ∧ c.tdrFull = false)) :
    c.endFrame = { c with frame := none, left := 0, scsr := c.scsr ||| 0x40 } := by
  have hs : ({ c with frame := none, left := 0 } : Sci).start = { c with frame := none, left := 0 } :=
    start_rests h
  simp [Sci.endFrame, hs]

theorem endFrame_continues {c : Sci} (hte : bit c.sccr2 3 = true) (h : sciWaits c) :
    c.endFrame = ({ c with frame := none, left := 0 } : Sci).start := by
  have hs := (start_takes (c := { c with frame := none, left := 0 }) hte h).2
  simp only [Sci.endFrame]
  rw [if_neg hs]

theorem write_sccr2 {s : State} {a : Word} (v : Byte) (h : resolve s a = .reg 0x2D) :
    writeByte a v s = { s with sci := s.sci.writeSccr2 v } :=
  writeByte_of_reg v h

/-! ### The statement -/

theorem sciRx_clocked {s : State} (d : Byte) (n f z : Bool) (h : s.run ≠ .stopped) :
    applyEvent (.sciRx d n f z) s = { s with sci := s.sci.rx d n f z } :=
  unlessStopped_clocked (fun s => { s with sci := s.sci.rx d n f z }) h

theorem sciRx_stopped {s : State} (d : Byte) (n f z : Bool) (h : s.run = .stopped) :
    applyEvent (.sciRx d n f z) s = s :=
  unlessStopped_stopped (fun s => { s with sci := s.sci.rx d n f z }) h

theorem sciIdle_clocked {s : State} (h : s.run ≠ .stopped) :
    applyEvent .sciIdle s = { s with sci := s.sci.idle } :=
  unlessStopped_clocked (fun s => { s with sci := s.sci.idle }) h

theorem sciIdle_stopped {s : State} (h : s.run = .stopped) : applyEvent .sciIdle s = s :=
  unlessStopped_stopped (fun s => { s with sci := s.sci.idle }) h

/-- Settles O58: reception, the idle line, what a free shift register takes, the end of a frame, and the writes of
SCDR and SCCR2. -/
theorem sciCharacters : Obligations.SciCharacters := by
  refine ⟨?receive, ?idle, ?start, ?output, ?rests, ?continues, ?writes⟩
  case receive =>
    rintro s _ d n f z rfl
    refine ⟨?_, ?_, fun hrun hre hrwu hrdrf => ?_, fun hrun hre hrwu hrdrf => ?_, fun hrun hre hrwu => ?_⟩
    · by_cases hrun : s.run = .stopped
      · rw [sciRx_stopped d n f z hrun]
      · rw [sciRx_clocked d n f z hrun]
    · intro h
      by_cases hrun : s.run = .stopped
      · exact sciRx_stopped d n f z hrun
      · rw [sciRx_clocked d n f z hrun, rx_disabled d n f z (h.resolve_right hrun)]
    · rw [sciRx_clocked d n f z hrun, rx_awake d n f z hre hrwu,
        receive_free (c := { s.sci with rxActive := true }) d n f z hrdrf]
      refine ⟨rfl, rfl, ?_, ?_, ?_, fun hnine => ?_⟩
      · simp
      · simp [bit_bitAt]
      · simp [bit_bitAt]
      · simp [hnine, bit_setBit]
    · rw [sciRx_clocked d n f z hrun, rx_awake d n f z hre hrwu,
        receive_overrun (c := { s.sci with rxActive := true }) d n f z hrdrf]
      exact ⟨rfl, rfl, rfl⟩
    · refine ⟨fun h => ?_, fun hwake htop => ?_⟩
      · rw [sciRx_clocked d n f z hrun, rx_lost f z hre hrwu h]
      · rw [sciRx_clocked d n f z hrun, rx_wakes f z hre hrwu hwake htop]
        exact (sciRx_clocked (s := { s with sci := { s.sci with sccr2 := s.sci.sccr2 &&& 0xFD } })
          d n f z hrun).symm
  case idle =>
    rintro s _ rfl
    refine ⟨fun h => ?_, fun hrun hre hrwu => ?_, fun hrun hre hrwu => ?_⟩
    · by_cases hrun : s.run = .stopped
      · exact sciIdle_stopped hrun
      · rw [sciIdle_clocked hrun, idle_disabled (h.resolve_right hrun)]
    · rw [sciIdle_clocked hrun, idle_awake hre hrwu]
    · rw [sciIdle_clocked hrun, idle_asleep hre hrwu]
  case start =>
    intro s scp p hlist hscp hte hfree
    rw [tick_sci_free hfree]
    refine ⟨fun h => ?_, fun hsbk hp hf => ?_, fun hsbk hp => ?_, fun hsbk => ?_⟩
    · rw [(start_takes hte h).1, frameTime_eq hlist hscp]
    · rw [start_char hte hsbk hp hf]
      exact ⟨rfl, by simp [Sci.load], rfl⟩
    · rw [start_preamble hte hsbk hp]
      rfl
    · rw [start_break hte hsbk]
      exact ⟨rfl, rfl, rfl, rfl⟩
  case output =>
    intro s d n hf hl
    exact advance_frame_output hf hl (List.mem_singleton.2 rfl)
  case rests =>
    intro s f hf hl h
    rw [tick_sci_last hf hl, endFrame_rests h]
  case continues =>
    rintro s _ f hf hl hte h rfl
    rw [tick_sci_last hf hl, tick_sci_free rfl]
    exact endFrame_continues hte h
  case writes =>
    rintro s _ a v rfl
    refine ⟨fun h => write_scdr v h, fun h hte hv => ?_⟩
    rw [write_sccr2 v h]
    simp [Sci.writeSccr2, hte, hv]

end Sys2Proof.Proofs
end

section
/-! SUPPORT.
The SPI's exchange and the converter's sequence as rules: how they start, run on, and end.
Settles O60.
-/

namespace Sys2Proof.Proofs

open Sys2Proof.Machine Sys2Proof.Laws

/-! ### The SPI -/

/-- Before its last cycle an exchange only runs on. -/
theorem advance_spi {n : Nat} {s : State} (h : n < s.spi.left) :
    (advance n s).spi = { s.spi with left := s.spi.left - n } := by
  induction n with
  | zero => rfl
  | succ n ih =>
    obtain ⟨m, hm⟩ : ∃ m, s.spi.left - n = m + 2 := ⟨s.spi.left - n - 2, by omega⟩
    have hleft : s.spi.left - (n + 1) = m + 1 := by omega
    rw [advance_succ, tick_spi, ih (by omega), hm, hleft]
    rfl

theorem spi_tick_last {p : Spi} (input : Byte) (h : p.left = 1) : p.tick input = p.complete input := by
  rw [Spi.tick, h]

/-- With its last cycle an exchange is complete, and its byte is sent (60 R485). -/
theorem advance_exchange {s : State} (h : 0 < s.spi.left) :
    (advance s.spi.left s).spi = (s.spi.complete s.env.spiIn).1 ∧
      Output.spiXfer s.spi.shift ∈ (advance s.spi.left s).env.outputs := by
  obtain ⟨n, hn⟩ : ∃ n, s.spi.left = n + 1 := ⟨s.spi.left - 1, by omega⟩
  have hlast : (advance n s).spi = { s.spi with left := 1 } := by
    rw [advance_spi (by omega), hn, Nat.add_sub_cancel_left]
  have hin : (advance n s).env.spiIn = s.env.spiIn := by rw [(advance_env n s).1]
  have hdone : (advance n s).spi.tick (advance n s).env.spiIn = s.spi.complete s.env.spiIn := by
    rw [hlast, hin]
    exact spi_tick_last _ rfl
  rw [hn, advance_succ, tick_spi, tick_outputs, hdone]
  exact ⟨rfl, List.mem_append_left _ (List.mem_singleton.2 rfl)⟩

/-- A byte written during an exchange is lost: a collision (10 R69). -/
theorem writeSpdr_collision {p : Spi} (v : Byte) (h : 0 < p.left) :
    p.writeSpdr v = { p.touchSpdr with spsr := p.touchSpdr.spsr ||| 0x40 } := by
  unfold Spi.writeSpdr
  exact if_pos h.ne'

theorem writeSpdr_starts {p : Spi} (v : Byte) (h : p.left = 0) :
    p.writeSpdr v =
      { p.touchSpdr with shift := v, left := if p.on && p.master then p.exchangeTime else 0 } := by
  unfold Spi.writeSpdr
  exact if_neg (not_not_intro h)

theorem exchangeTime_eq {p : Spi} {spr n : Nat} (h : (spr, n) ∈ [(0, 2), (1, 4), (2, 16), (3, 32)])
    (hspr : p.spcr.toNat % 4 = spr) : p.exchangeTime = 8 * n := by
  unfold Spi.exchangeTime
  rw [hspr]
  repeat' rcases h with _ | ⟨_, h⟩
  all_goals rfl

/-- A slave that is on, with SS low, exchanges the byte at once. -/
theorem slave_selected {p : Spi} (v : Byte) (hspe : bit p.spcr 6 = true) (hmstr : bit p.spcr 4 = false) :
    p.slave v false = p.complete v := by
  simp [Spi.slave, Spi.on, Spi.master, hspe, hmstr]

theorem slave_deselected {p : Spi} {ss : Bool} (v : Byte)
    (h : bit p.spcr 6 = false ∨ bit p.spcr 4 = true ∨ ss = true) : p.slave v ss = (p, []) := by
  rcases h with h | h | h <;> simp [Spi.slave, Spi.on, Spi.master, h]

/-! ### The converter -/

theorem write_adctl {s : State} {a : Word} (v : Byte) (h : resolve s a = .reg 0x30) :
    writeByte a v s = { s with adc := s.adc.writeAdctl s.adcOn v } :=
  writeByte_of_reg v h

theorem converted_off {s : State} (h : bit s.sys.option 7 = false) :
    converted s = { s.adc with active := false } := by
  simp [converted, State.adcOn, h]

theorem converted_waits {s : State} (hon : bit s.sys.option 7 = true) (ha : s.adc.active = true)
    (hl : 1 < s.adc.left) : converted s = { s.adc with left := s.adc.left - 1 } := by
  simp [converted, State.adcOn, hon, ha, hl]

theorem converted_stores {s : State} (hon : bit s.sys.option 7 = true) (ha : s.adc.active = true)
    (hl : s.adc.left = 1) :
    converted s = s.adc.store (sampleOf s.adc.channel s.env.analog (Config.freeByte s.draws)) := by
  simp [converted, State.adcOn, hon, ha, hl]

/-- The environment's samples stay while the devices count. -/
theorem advance_analog (n : Nat) (s : State) : (advance n s).env.analog = s.env.analog := by
  rw [(advance_env n s).1]

/-- Before its last cycle a conversion only runs on. -/
theorem advance_adc {n : Nat} {s : State} (hon : bit s.sys.option 7 = true)
    (ha : s.adc.active = true) (h : n < s.adc.left) :
    (advance n s).adc = { s.adc with left := s.adc.left - n } := by
  induction n with
  | zero => rfl
  | succ n ih =>
    have hn := ih (by omega)
    have hlong : 1 < (advance n s).adc.left := by rw [hn]; show 1 < s.adc.left - n; omega
    rw [advance_succ, tick_adc, converted_waits ((advance_env n s).2 ▸ hon) (hn ▸ ha) hlong, hn]
    rfl

/-- The channel of the conversion with index `i` (60 R488). -/
def channelAt (adctl : Byte) (i : Nat) : Nat :=
  if bit adctl 4 then adctl.toNat % 16 / 4 * 4 + i else adctl.toNat % 16

theorem channel_eq {d : Adc} {i : Nat} (h : d.idx = i) (hi : i < 4) :
    d.channel = channelAt d.adctl i := by
  rw [Adc.channel, h, Nat.mod_eq_of_lt hi]
  rfl

/-- A converter that is on and at the first cycle of conversion `i` of a sequence. -/
structure Converting (s : State) (i : Nat) : Prop where
  on : bit s.sys.option 7 = true
  active : s.adc.active = true
  idx : s.adc.idx = i
  left : s.adc.left = 32

/-- A conversion takes 32 cycles; only the sample of a reserved channel is free. -/
theorem advance_conversion {s : State} {i : Nat} (h : Converting s i) (hi : i < 4) :
    ∃ free, (advance 32 s).adc =
      s.adc.store (sampleOf (channelAt s.adc.adctl i) s.env.analog free) := by
  have hlast : (advance 31 s).adc = { s.adc with left := 1 } := by
    rw [advance_adc h.on h.active (by rw [h.left]; omega), h.left]
  refine ⟨Config.freeByte (advance 31 s).draws, ?_⟩
  rw [advance_succ, tick_adc,
    converted_stores ((advance_env 31 s).2 ▸ h.on) (hlast ▸ h.active) (hlast ▸ rfl), hlast,
    advance_analog, channel_eq (d := { s.adc with left := 1 }) h.idx hi]
  unfold Adc.store
  simp only [h.idx]

/-- Each of the first three conversions leads to the next. -/
theorem converting_next {s : State} {i : Nat} (h : Converting s i) (hi : i < 3) :
    Converting (advance 32 s) (i + 1) ∧ (advance 32 s).adc.adctl = s.adc.adctl := by
  obtain ⟨free, hadc⟩ := advance_conversion h (by omega)
  have hon := (advance_env 32 s).2 ▸ h.on
  unfold Adc.store at hadc
  rw [h.idx] at hadc
  interval_cases i <;> exact ⟨⟨hon, hadc ▸ h.active, hadc ▸ rfl, hadc ▸ rfl⟩, hadc ▸ rfl⟩

theorem store_four {d : Adc} (r₁ r₂ r₃ r₄ : Byte) (h : d.idx = 0) :
    (((d.store r₁).store r₂).store r₃).store r₄ = { d with
      adr1 := r₁, adr2 := r₂, adr3 := r₃, adr4 := r₄
      idx := 0, left := 32, adctl := d.adctl ||| 0x80, active := bit d.adctl 5 } := by
  simp [Adc.store, h]

/-- The result of conversion `i` of a sequence that starts in `s`, where a free value is `free`. -/
def resultOf (s : State) (i : Nat) (free : Byte) : Byte :=
  sampleOf (channelAt s.adc.adctl i) s.env.analog free

/-- A sequence takes 128 cycles (60 R488). -/
theorem advance_sequence {s : State} (h : Converting s 0) :
    ∃ f₁ f₂ f₃ f₄, (advance 128 s).adc = { s.adc with
      adr1 := resultOf s 0 f₁, adr2 := resultOf s 1 f₂, adr3 := resultOf s 2 f₃, adr4 := resultOf s 3 f₄
      idx := 0, left := 32, adctl := s.adc.adctl ||| 0x80, active := bit s.adc.adctl 5 } := by
  obtain ⟨h₁, hc₁⟩ := converting_next h (by omega)
  obtain ⟨h₂, hc₂⟩ := converting_next h₁ (by omega)
  obtain ⟨h₃, hc₃⟩ := converting_next h₂ (by omega)
  obtain ⟨f₁, hs₁⟩ := advance_conversion h (by omega)
  obtain ⟨f₂, hs₂⟩ := advance_conversion h₁ (by omega)
  obtain ⟨f₃, hs₃⟩ := advance_conversion h₂ (by omega)
  obtain ⟨f₄, hs₄⟩ := advance_conversion h₃ (by omega)
  refine ⟨f₁, f₂, f₃, f₄, ?_⟩
  rw [advance_add 32 96, advance_add 32 64, advance_add 32 32,
    hs₄, hc₃, hc₂, hc₁, hs₃, hc₂, hc₁, hs₂, hc₁, hs₁, store_four _ _ _ _ h.idx]
  simp only [advance_analog, resultOf]

/-- What the spec says of a result: the sample of an input, or the nominal value of a test channel (93 U7). -/
theorem resultOf_channel {s : State} {i ch : Nat} {r free : Byte} (hr : r = resultOf s i free)
    (hch : ch = channelAt s.adc.adctl i) :
    (∀ h : ch < 8, r = s.env.analog[ch]) ∧ (ch = 12 → r = 0xFF) ∧ (ch = 13 → r = 0) ∧
      (ch = 14 → r = 0x80) := by
  subst hr
  unfold resultOf
  rw [← hch]
  refine ⟨fun h => dif_pos h, ?_, ?_, ?_⟩ <;> rintro rfl <;> rfl

/-! ### The statement -/

theorem spiSlave_clocked {s : State} (v : Byte) (h : s.run ≠ .stopped) :
    applyEvent (.spiSlave v) s = spiSlaveByte v s :=
  unlessStopped_clocked (spiSlaveByte v) h

theorem spiSlave_stopped {s : State} (v : Byte) (h : s.run = .stopped) :
    applyEvent (.spiSlave v) s = s :=
  unlessStopped_stopped (spiSlaveByte v) h

/-- Settles O60: the end of an exchange, the write of SPDR, the slave's exchange, the write of ADCTL, and the
converter without power and through a sequence. -/
theorem transfersComplete : Obligations.TransfersComplete := by
  refine ⟨?exchange, ?spdr, ?slave, ?adctl, ?unpowered, ?sequence⟩
  case exchange =>
    rintro s _ h rfl
    obtain ⟨hspi, hsent⟩ := advance_exchange h
    rw [hspi]
    exact ⟨by simp [Spi.complete], rfl, rfl, hsent⟩
  case spdr =>
    rintro s _ a v _ ha rfl rfl
    rw [write_spdr v ha]
    refine ⟨fun h => ?_, fun spr n hlist hspr h => ?_⟩
    · rw [writeSpdr_collision v h]
      rfl
    · rw [writeSpdr_starts v h, exchangeTime_eq hlist hspr]
      simp only [Spi.on, Spi.master, Bool.and_eq_true]
      rfl
  case slave =>
    rintro s _ v rfl
    refine ⟨fun hrun hspe hmstr hss => ?_, fun h => ?_⟩
    · rw [spiSlave_clocked v hrun, spiSlaveByte, hss, slave_selected v hspe hmstr]
      rfl
    · by_cases hrun : s.run = .stopped
      · exact spiSlave_stopped v hrun
      · rw [spiSlave_clocked v hrun, spiSlaveByte, slave_deselected v (h.resolve_left hrun)]
        rfl
  case adctl => exact fun s a v h => write_adctl v h
  case unpowered =>
    intro s h
    rw [tick_adc, converted_off h]
  case sequence =>
    rintro s _ hon hactive hidx hleft rfl
    obtain ⟨f₁, f₂, f₃, f₄, hadc⟩ := advance_sequence ⟨hon, hactive, hidx, hleft⟩
    rw [hadc]
    refine ⟨rfl, rfl, rfl, rfl, fun i ch r hr hch => ?_⟩
    repeat' rcases hr with _ | ⟨_, hr⟩
    · exact resultOf_channel rfl hch
    · exact resultOf_channel rfl hch
    · exact resultOf_channel rfl hch
    · exact resultOf_channel rfl hch

end Sys2Proof.Proofs
end

section
/-! SUPPORT.
Writes that leave the state alone, and the CPU registers after any write. Settles O13.
-/

namespace Sys2Proof.Proofs

open Sys2Proof.Machine Sys2Proof.Laws

/-- A byte write keeps the CPU registers. -/
theorem regs_writeByte (a : Word) (v : Byte) (s : State) : regs (writeByte a v s) = regs s := by
  obtain ⟨_, _, _, _, _, _, _, _, _, _, _, h⟩ := writeByte_writes a v s
  rw [h]
  rfl

/-- The bootstrap ROM ignores a write (20 R145). -/
theorem writeByte_of_boot {s : State} {a : Word} {off : Nat} (v : Byte)
    (h : resolve s a = .mem .boot off) : writeByte a v s = s := by
  simp only [writeByte, h, writeArray]

/-- A write of the EEPROM is a write of its latches (20 R144). -/
theorem writeByte_of_eeprom {s : State} {a : Word} {off : Nat} (v : Byte)
    (h : resolve s a = .mem .eeprom off) : writeByte a v s = latchWrite (.array off) v s := by
  simp only [writeByte, h, writeArray]

/-- The EEPROM's latches take nothing while EELAT = 0 (20 R144). -/
theorem latchWrite_of_unlatched {s : State} (g : EeTarget) (v : Byte) (h : s.eelat = false) :
    latchWrite g v s = s := by
  simp [latchWrite, h]

/-- Settles O13: where a write lands, the write of a register, and the two arrays that ignore a write. -/
theorem writesStore : Obligations.WritesStore := by
  intro s a v
  refine ⟨writeByte_landed a v s, regs_writeByte a v s, writeByte_ccr a v s,
    fun _ => writeByte_of_reg v, fun _ => writeByte_of_boot v, ?eeprom⟩
  case eeprom =>
    intro off hr hlat
    rw [writeByte_of_eeprom v hr, latchWrite_of_unlatched _ v hlat]

end Sys2Proof.Proofs
end

section
/-! SUPPORT.
The decoder and the encoder row by row: an opcode on a page with its prebyte is one shape, every shape of the
page tables builds instructions that are encoded as they were read, and every encoder family has its rows in
the tables. Settles O1, O2, O3 and O4.
-/

namespace Sys2Proof.Proofs

open Sys2Proof.Laws

/-! ### Decoding through a page -/

/-- The bytes that select a page: none for page 1, else its prebyte (30 R172). -/
def prebytes : Page → List Byte
  | .p1 => []
  | .p2 => [0x18]
  | .p3 => [0x1A]
  | .p4 => [0xCD]

/-- The three prebytes, each with its page (30 R172). -/
theorem prebyte_eq_some {b : Byte} {page : Page} (h : prebyte? b = some page) :
    page ≠ .p1 ∧ prebytes page = [b] ∧ (b = 0x18 ∨ b = 0x1A ∨ b = 0xCD) := by
  unfold prebyte? at h
  split_ifs at h with h18 h1A hCD
  all_goals
    cases h
    simp [prebytes, *]

/-- A prebyte is an unassigned opcode of every page (30 R184). -/
theorem lookup_prebyte {b : Byte} (page : Page) (h : prebyte? b ≠ none) : lookup page b = none := by
  obtain ⟨p, hp⟩ := Option.ne_none_iff_exists'.1 h
  obtain ⟨_, _, rfl | rfl | rfl⟩ := prebyte_eq_some hp <;> cases page <;> rfl

/-- An assigned opcode is no prebyte. -/
theorem prebyte_of_lookup {page : Page} {op : Byte} {sh : Shape} (h : lookup page op = some sh) :
    prebyte? op = none := by
  by_contra hp
  cases (lookup_prebyte page hp).symm.trans h

theorem decode_of_prebyte {b : Byte} {page : Page} (h : prebyte? b = some page) (bs : List Byte) :
    decode (b :: bs) = decodeOn page bs := by
  simp only [decode, h]

theorem decode_of_not_prebyte {b : Byte} (h : prebyte? b = none) (bs : List Byte) :
    decode (b :: bs) = decodeOn .p1 (b :: bs) := by
  simp only [decode, h]

theorem decodeOn_of_lookup {page : Page} {op : Byte} {sh : Shape} (h : lookup page op = some sh)
    (bs : List Byte) : decodeOn page (op :: bs) = sh.take bs := by
  simp only [decodeOn, h]

theorem decodeOn_of_unassigned {page : Page} {op : Byte} (h : lookup page op = none)
    (bs : List Byte) : decodeOn page (op :: bs) = .error (.illegalOpcode page op) := by
  simp only [decodeOn, h]

/-- An assigned opcode after its page's prebyte is decoded by its shape (30 R171). -/
theorem decode_of_lookup {page : Page} {op : Byte} {sh : Shape} (h : lookup page op = some sh)
    (bs : List Byte) : decode (prebytes page ++ op :: bs) = sh.take bs := by
  cases page with
  | p1 => exact (decode_of_not_prebyte (prebyte_of_lookup h) bs).trans (decodeOn_of_lookup h bs)
  | p2 | p3 | p4 => exact (decode_of_prebyte rfl _).trans (decodeOn_of_lookup h bs)

/-- What decodes on a page is an assigned opcode and the operands its shape takes. -/
theorem decodeOn_eq_ok {page : Page} {bs rest : List Byte} {i : Instr}
    (h : decodeOn page bs = .ok (i, rest)) :
    ∃ op sh tail, bs = op :: tail ∧ lookup page op = some sh ∧ sh.take tail = .ok (i, rest) := by
  cases bs with
  | nil => cases h
  | cons op tail =>
    cases hl : lookup page op with
    | none =>
      rw [decodeOn_of_unassigned hl] at h
      cases h
    | some sh =>
      rw [decodeOn_of_lookup hl] at h
      exact ⟨op, sh, tail, rfl, hl, h⟩

/-- What decodes is a page's prebyte, an opcode assigned there and the operands its shape takes. -/
theorem decode_eq_ok {bs rest : List Byte} {i : Instr} (h : decode bs = .ok (i, rest)) :
    ∃ page op sh tail, bs = prebytes page ++ op :: tail ∧ lookup page op = some sh ∧
      sh.take tail = .ok (i, rest) := by
  cases bs with
  | nil => cases h
  | cons b bs =>
    cases hp : prebyte? b with
    | none =>
      rw [decode_of_not_prebyte hp] at h
      obtain ⟨op, sh, tail, hbs, hl, ht⟩ := decodeOn_eq_ok h
      exact ⟨.p1, op, sh, tail, hbs, hl, ht⟩
    | some page =>
      rw [decode_of_prebyte hp] at h
      obtain ⟨op, sh, tail, rfl, hl, ht⟩ := decodeOn_eq_ok h
      obtain ⟨_, hpre, _⟩ := prebyte_eq_some hp
      exact ⟨page, op, sh, tail, by rw [hpre]; rfl, hl, ht⟩

/-! ### From the tables to the encoder -/

/-- The instruction is well formed and these are its bytes. -/
def encodedAs (i : Instr) (bytes : List Byte) : Prop := i.wf = true ∧ encode i = bytes

/-- Every instruction the shape builds is encoded by `front` and the operand bytes it was built from. -/
def writtenAs (front : List Byte) : Shape → Prop
  | .zero i => encodedAs i front
  | .one f => ∀ x, encodedAs (f x) (front ++ [x])
  | .two f => ∀ x y, encodedAs (f x y) (front ++ [x, y])
  | .three f => ∀ x y z, encodedAs (f x y z) (front ++ [x, y, z])

/-- An instruction taken by a shape is encoded by the bytes it was taken from. -/
theorem encode_of_take {front bs rest : List Byte} {sh : Shape} {i : Instr} (hw : writtenAs front sh)
    (h : sh.take bs = .ok (i, rest)) : i.wf = true ∧ encode i ++ rest = front ++ bs := by
  unfold Shape.take at h
  split at h
  case h_5 => cases h
  case h_1 j bs =>
    cases h
    obtain ⟨hwf, henc⟩ := hw
    exact ⟨hwf, by rw [henc]⟩
  case h_2 f x bs =>
    cases h
    obtain ⟨hwf, henc⟩ := hw x
    exact ⟨hwf, by simp [henc]⟩
  case h_3 f x y bs =>
    cases h
    obtain ⟨hwf, henc⟩ := hw x y
    exact ⟨hwf, by simp [henc]⟩
  case h_4 f x y z bs =>
    cases h
    obtain ⟨hwf, henc⟩ := hw x y z
    exact ⟨hwf, by simp [henc]⟩

/-! Page by page: each assigned opcode is one case, and the encoder writes its instruction from that opcode. -/

section
variable {op : Nat} {sh : Shape}

theorem writtenAs_page1Low (h : page1Low op = some sh) : writtenAs [BitVec.ofNat 8 op] sh := by
  unfold page1Low at h
  split at h <;> cases h
  all_goals simp [writtenAs, encodedAs, encode, encBit, Instr.wf, MemOp.notExt]

theorem writtenAs_page1Acc (h : page1Acc op = some sh) : writtenAs [BitVec.ofNat 8 op] sh := by
  unfold page1Acc at h
  split at h <;> cases h
  all_goals simp [writtenAs, encodedAs, encode, encRmw, Instr.wf, MemOp.notDir]

theorem writtenAs_page1A (h : page1A op = some sh) : writtenAs [BitVec.ofNat 8 op] sh := by
  unfold page1A at h
  split at h <;> cases h
  all_goals simp [writtenAs, encodedAs, encode, encSrc8, encSrc16, encMem, Instr.wf]

theorem writtenAs_page1B (h : page1B op = some sh) : writtenAs [BitVec.ofNat 8 op] sh := by
  unfold page1B at h
  split at h <;> cases h
  all_goals simp [writtenAs, encodedAs, encode, encSrc8, encSrc16, encMem, Instr.wf]

theorem writtenAs_page2 (h : page2 op = some sh) : writtenAs [0x18, BitVec.ofNat 8 op] sh := by
  unfold page2 at h
  split at h <;> cases h
  all_goals simp [writtenAs, encodedAs, encode, encSrc8, encSrc16, encMem, encRmw, encBit, Instr.wf,
    MemOp.notDir, MemOp.notExt]

theorem writtenAs_page3 (h : page3 op = some sh) : writtenAs [0x1A, BitVec.ofNat 8 op] sh := by
  unfold page3 at h
  split at h <;> cases h
  all_goals simp [writtenAs, encodedAs, encode, encSrc16, encMem, Instr.wf]

theorem writtenAs_page4 (h : page4 op = some sh) : writtenAs [0xCD, BitVec.ofNat 8 op] sh := by
  unfold page4 at h
  split at h <;> cases h
  all_goals simp [writtenAs, encodedAs, encode, encSrc16, encMem, Instr.wf]

end

/-- Every row of the page tables is a row of the encoder (30 R189). -/
theorem writtenAs_of_lookup {page : Page} {op : Byte} {sh : Shape} (h : lookup page op = some sh) :
    writtenAs (prebytes page ++ [op]) sh := by
  have hop : op = BitVec.ofNat 8 op.toNat := by simp
  rw [hop]
  cases page with
  | p1 =>
    simp only [lookup] at h
    split_ifs at h
    · exact writtenAs_page1Low h
    · exact writtenAs_page1Acc h
    · exact writtenAs_page1A h
    · exact writtenAs_page1B h
  | p2 => exact writtenAs_page2 h
  | p3 => exact writtenAs_page3 h
  | p4 => exact writtenAs_page4 h

/-- Settles O2: what decodes is a row of the tables, which the encoder writes as it was read. -/
theorem encodeDecode : Obligations.EncodeDecode := by
  intro bs i rest h
  obtain ⟨page, op, sh, tail, rfl, hl, ht⟩ := decode_eq_ok h
  simpa using encode_of_take (writtenAs_of_lookup hl) ht

/-! ### From the encoder to the tables -/

/-- The bytes of the instruction decode to it, whatever follows. -/
def decodesBack (i : Instr) : Prop := ∀ rest, decode (encode i ++ rest) = .ok (i, rest)

/-- The rows of an instruction with DIR, IND,X, IND,Y and EXT forms: DIR and EXT on page `p`, IND,X on `px`,
IND,Y on `py` (30 R190). -/
def memRows (p px py : Page) (d : Byte) (f : MemOp → Instr) : Prop :=
  lookup p d = some (.one fun dd => f (.dir dd)) ∧
  lookup px (d + 0x10) = some (.one fun ff => f (.indX ff)) ∧
  lookup py (d + 0x10) = some (.one fun ff => f (.indY ff)) ∧
  lookup p (d + 0x20) = some (.two fun h l => f (.ext (mk16 h l)))

/-- The rows of a read-modify-write instruction or JMP (30 R189). -/
def rmwRows (x : Byte) (f : MemOp → Instr) : Prop :=
  lookup .p1 x = some (.one fun ff => f (.indX ff)) ∧
  lookup .p2 x = some (.one fun ff => f (.indY ff)) ∧
  lookup .p1 (x + 0x10) = some (.two fun h l => f (.ext (mk16 h l)))

/-- The rows of a bit-manipulation instruction, its shape in each form given by `shape` (30 R182). -/
def bitRows (d x : Byte) (shape : (Byte → MemOp) → Shape) : Prop :=
  lookup .p1 d = some (shape .dir) ∧ lookup .p1 x = some (shape .indX) ∧
  lookup .p2 x = some (shape .indY)

theorem decode_encMem {p px py : Page} {d : Byte} {f : MemOp → Instr} (h : memRows p px py d f)
    (m : MemOp) (rest : List Byte) :
    decode (encMem (prebytes p) (prebytes px) (prebytes py) d m ++ rest) = .ok (f m, rest) := by
  obtain ⟨hdir, hx, hy, hext⟩ := h
  cases m <;> simp only [encMem, List.append_assoc, List.cons_append, List.nil_append]
  case dir => rw [decode_of_lookup hdir]; rfl
  case indX => rw [decode_of_lookup hx]; rfl
  case indY => rw [decode_of_lookup hy]; rfl
  case ext => rw [decode_of_lookup hext]; simp [Shape.take]

theorem decode_encSrc8 {op : Byte} {f : Src8 → Instr}
    (himm : lookup .p1 op = some (.one fun ii => f (.imm ii)))
    (h : memRows .p1 .p1 .p2 (op + 0x10) fun m => f (.mem m)) (src : Src8) (rest : List Byte) :
    decode (encSrc8 op src ++ rest) = .ok (f src, rest) := by
  cases src with
  | imm ii => exact decode_of_lookup himm (ii :: rest)
  | mem m => exact decode_encMem h m rest

theorem decode_encSrc16 {p px py : Page} {op : Byte} {f : Src16 → Instr}
    (himm : lookup p op = some (.two fun j k => f (.imm (mk16 j k))))
    (h : memRows p px py (op + 0x10) fun m => f (.mem m)) (src : Src16) (rest : List Byte) :
    decode (encSrc16 (prebytes p) (prebytes px) (prebytes py) op src ++ rest) = .ok (f src, rest) := by
  cases src with
  | imm w =>
    simp only [encSrc16, List.append_assoc, List.cons_append, List.nil_append]
    rw [decode_of_lookup himm]
    simp [Shape.take]
  | mem m => exact decode_encMem h m rest

theorem decode_encRmw {x : Byte} {f : MemOp → Instr} (h : rmwRows x f) {m : MemOp}
    (hm : m.notDir = true) (rest : List Byte) :
    decode (encRmw x m ++ rest) = .ok (f m, rest) := by
  obtain ⟨hx, hy, hext⟩ := h
  cases m with
  | dir dd => cases hm
  | indX ff => exact decode_of_lookup hx (ff :: rest)
  | indY ff => exact decode_of_lookup hy (ff :: rest)
  | ext a =>
    have hrow := decode_of_lookup hext (hi8 a :: lo8 a :: rest)
    simp only [Shape.take, mk16_hi8_lo8] at hrow
    exact hrow

/-- The bytes of a bit-manipulation instruction, where the shape of each form takes them. -/
theorem decode_encBit {d x : Byte} {shape : (Byte → MemOp) → Shape} {f : MemOp → Instr}
    {tail : List Byte} (h : bitRows d x shape)
    (ht : ∀ form ff rest, (shape form).take (ff :: tail ++ rest) = .ok (f (form ff), rest))
    {m : MemOp} (hm : m.notExt = true) (rest : List Byte) :
    decode (encBit d x tail m ++ rest) = .ok (f m, rest) := by
  obtain ⟨hdir, hx, hy⟩ := h
  cases m with
  | dir dd => exact (decode_of_lookup hdir _).trans (ht .dir dd rest)
  | indX ff => exact (decode_of_lookup hx _).trans (ht .indX ff rest)
  | indY ff => exact (decode_of_lookup hy _).trans (ht .indY ff rest)
  | ext a => cases hm

/-- The rows of a bit operation: the mask follows the address byte. -/
theorem decode_bitOp {d x mm : Byte} {f : MemOp → Byte → Instr}
    (h : bitRows d x fun form => .two fun ff mm => f (form ff) mm) {m : MemOp} (hm : m.notExt = true)
    (rest : List Byte) : decode (encBit d x [mm] m ++ rest) = .ok (f m mm, rest) :=
  decode_encBit (f := (f · mm)) h (fun _ _ _ => rfl) hm rest

/-- The rows of a bit-test branch: mask and offset follow the address byte. -/
theorem decode_bitBranch {d x mm rr : Byte} {f : MemOp → Byte → Byte → Instr}
    (h : bitRows d x fun form => .three fun ff mm rr => f (form ff) mm rr) {m : MemOp}
    (hm : m.notExt = true) (rest : List Byte) :
    decode (encBit d x [mm, rr] m ++ rest) = .ok (f m mm rr, rest) :=
  decode_encBit (f := (f · mm rr)) h (fun _ _ _ => rfl) hm rest

/-- An opcode with no operand bytes. -/
theorem decode_inherent {page : Page} {op : Byte} {i : Instr} (h : lookup page op = some (.zero i))
    (rest : List Byte) : decode (prebytes page ++ op :: rest) = .ok (i, rest) :=
  decode_of_lookup h rest

/-- An opcode with one operand byte, the offset of a branch (30 R181). -/
theorem decode_relative {op rr : Byte} {f : Byte → Instr} (h : lookup .p1 op = some (.one f))
    (rest : List Byte) : decode ([op, rr] ++ rest) = .ok (f rr, rest) :=
  decode_of_lookup h (rr :: rest)

/-- The 8-bit instructions of accumulator A. -/
theorem decodesBack_accA (src : Src8) : ∀ i ∈ [Instr.ldaa src, .adca src, .adda src, .sbca src,
    .suba src, .cmpa src, .anda src, .bita src, .eora src, .oraa src], decodesBack i := by
  intro i hi rest
  fin_cases hi <;> exact decode_encSrc8 rfl ⟨rfl, rfl, rfl, rfl⟩ src rest

/-- The 8-bit instructions of accumulator B. -/
theorem decodesBack_accB (src : Src8) : ∀ i ∈ [Instr.ldab src, .adcb src, .addb src, .sbcb src,
    .subb src, .cmpb src, .andb src, .bitb src, .eorb src, .orab src], decodesBack i := by
  intro i hi rest
  fin_cases hi <;> exact decode_encSrc8 rfl ⟨rfl, rfl, rfl, rfl⟩ src rest

/-- Settles O1: each instruction by the rows of its family of encodings. -/
theorem decodeEncode : Obligations.DecodeEncode := by
  intro i rest hwf
  cases i with
  | ldaa src | adca src | adda src | sbca src | suba src | cmpa src | anda src | bita src | eora src
  | oraa src => exact decodesBack_accA src _ (by simp) rest
  | ldab src | adcb src | addb src | sbcb src | subb src | cmpb src | andb src | bitb src | eorb src
  | orab src => exact decodesBack_accB src _ (by simp) rest
  | ldd src | lds src | addd src | subd src =>
    exact decode_encSrc16 (p := .p1) (px := .p1) (py := .p2) rfl ⟨rfl, rfl, rfl, rfl⟩ src rest
  | ldx src | cpx src =>
    exact decode_encSrc16 (p := .p1) (px := .p1) (py := .p4) rfl ⟨rfl, rfl, rfl, rfl⟩ src rest
  | ldy src | cpy src =>
    exact decode_encSrc16 (p := .p2) (px := .p3) (py := .p2) rfl ⟨rfl, rfl, rfl, rfl⟩ src rest
  | cpd src =>
    exact decode_encSrc16 (p := .p3) (px := .p3) (py := .p4) rfl ⟨rfl, rfl, rfl, rfl⟩ src rest
  | staa dst | stab dst | std dst | sts dst | jsr dst =>
    exact decode_encMem (p := .p1) (px := .p1) (py := .p2) ⟨rfl, rfl, rfl, rfl⟩ dst rest
  | stx dst => exact decode_encMem (p := .p1) (px := .p1) (py := .p4) ⟨rfl, rfl, rfl, rfl⟩ dst rest
  | sty dst => exact decode_encMem (p := .p2) (px := .p3) (py := .p2) ⟨rfl, rfl, rfl, rfl⟩ dst rest
  | clr dst | dec dst | inc dst | neg dst | tst dst | com dst | asl dst | asr dst | lsr dst | rol dst
  | ror dst | jmp dst => exact decode_encRmw ⟨rfl, rfl, rfl⟩ hwf rest
  | bset dst mm | bclr dst mm => exact decode_bitOp ⟨rfl, rfl, rfl⟩ hwf rest
  | brset src mm rr | brclr src mm rr => exact decode_bitBranch ⟨rfl, rfl, rfl⟩ hwf rest
  | bra rr | brn rr | bcc rr | bcs rr | beq rr | bne rr | bmi rr | bpl rr | bvs rr | bvc rr | bge rr
  | bgt rr | ble rr | blt rr | bhi rr | bls rr | bsr rr => exact decode_relative rfl rest
  | tsy | tys | xgdy | pshy | puly | aby | dey | iny => exact decode_inherent (page := .p2) rfl rest
  | tap | tpa | tab | tba | tsx | txs | xgdx | psha | pshb | pshx | pula | pulb | pulx | clra | clrb
  | aba | abx | sba | cba | daa | deca | decb | des | dex | inca | incb | ins | inx | nega | negb
  | tsta | tstb | mul | idiv | fdiv | coma | comb | asla | aslb | asld | asra | asrb | lsra | lsrb
  | lsrd | rola | rolb | rora | rorb | rts | clc | cli | clv | sec | sei | sev | nop | rti | swi | wai
  | stop | test => exact decode_inherent (page := .p1) rfl rest

/-! ### Opcodes that are no instruction -/

/-- A shape never rejects an opcode: it can only lack operand bytes. -/
theorem take_ne_illegal (sh : Shape) (bs : List Byte) (page : Page) (op : Byte) :
    sh.take bs ≠ .error (.illegalOpcode page op) := by
  unfold Shape.take
  split <;> simp

/-- Bytes rejected on a page begin with an opcode unassigned there. -/
theorem decodeOn_eq_illegal {page p : Page} {op : Byte} {bs : List Byte}
    (h : decodeOn page bs = .error (.illegalOpcode p op)) : p = page ∧ lookup page op = none := by
  cases bs with
  | nil => cases h
  | cons b bs =>
    cases hl : lookup page b with
    | none =>
      rw [decodeOn_of_unassigned hl] at h
      cases h
      exact ⟨rfl, hl⟩
    | some sh =>
      rw [decodeOn_of_lookup hl] at h
      exact absurd h (take_ne_illegal sh bs p op)

/-- A first byte is rejected on page 1 exactly where it is neither a prebyte nor assigned there. -/
theorem decode_eq_illegal_p1_iff (op : Byte) (rest : List Byte) :
    decode (op :: rest) = .error (.illegalOpcode .p1 op) ↔
      prebyte? op = none ∧ lookup .p1 op = none := by
  constructor
  · intro h
    cases hp : prebyte? op with
    | none =>
      rw [decode_of_not_prebyte hp] at h
      exact ⟨rfl, (decodeOn_eq_illegal h).2⟩
    | some page =>
      rw [decode_of_prebyte hp] at h
      exact absurd (decodeOn_eq_illegal h).1.symm (prebyte_eq_some hp).1
  · rintro ⟨hp, hl⟩
    rw [decode_of_not_prebyte hp, decodeOn_of_unassigned hl]

/-- The bytes that are neither prebytes nor opcodes of page 1 (30 R183), by a look at all 256. -/
theorem unassigned_p1_iff : ∀ op : Byte, prebyte? op = none ∧ lookup .p1 op = none ↔
    op.toNat ∈ [0x41, 0x42, 0x45, 0x4B, 0x4E, 0x51, 0x52, 0x55, 0x5B, 0x5E,
                0x61, 0x62, 0x65, 0x6B, 0x71, 0x72, 0x75, 0x7B, 0x87, 0xC7] := by
  decide +kernel

/-- Settles O3: the unassigned opcodes, prebytes as opcodes, and the pages counted. -/
theorem illegalOpcodes : Obligations.IllegalOpcodes := by
  refine ⟨?first, ?second, ?counts⟩
  case first => exact fun op rest => (decode_eq_illegal_p1_iff op rest).trans (unassigned_p1_iff op)
  case second =>
    intro p op page rest hp hop
    rw [decode_of_prebyte hp, decodeOn_of_unassigned (lookup_prebyte page hop)]
  case counts =>
    intro page n h
    simp only [List.mem_cons, Prod.mk.injEq, List.not_mem_nil, or_false] at h
    obtain ⟨rfl, rfl⟩ | ⟨rfl, rfl⟩ | ⟨rfl, rfl⟩ | ⟨rfl, rfl⟩ := h <;> decide +kernel

/-- Settles O4: each word by its row of the tables. -/
theorem sampleWords : Obligations.SampleWords :=
  ⟨rfl, rfl, rfl, rfl, rfl, rfl, rfl, rfl, rfl⟩

end Sys2Proof.Proofs
end

section
/-! SUPPORT.
Operands as rules: the effective address, what reading an operand leaves unchanged, and what an instruction that
combines a register with an operand makes of the state. Settles O14 and O15.
-/

namespace Sys2Proof.Proofs

open Sys2Proof.Machine Sys2Proof.Laws

/-! ### Reading an operand -/

theorem toNat_ea_dir (dd : Byte) (s : State) : (ea (.dir dd) s).toNat = dd.toNat := by
  simp only [ea, zext16, BitVec.toNat_setWidth]
  omega

/-- An index register plus the unsigned offset, modulo 2^16 (30 R179, R180). -/
theorem toNat_add_zext16 (w : Word) (ff : Byte) :
    (w + zext16 ff).toNat = (w.toNat + ff.toNat) % 65536 := by
  simp only [zext16, BitVec.toNat_add, BitVec.toNat_setWidth]
  omega

theorem operand8_reads (src : Src8) (s : State) : ReadChanges s (operand8 src s).2 := by
  cases src with
  | imm ii => exact .refl s
  | mem m => exact readByte_reads _ s

theorem operand16_reads (src : Src16) (s : State) : ReadChanges s (operand16 src s).2 := by
  cases src with
  | imm w => exact .refl s
  | mem m => exact read16_reads _ s

theorem operand8_onlyRead (src : Src8) (s : State) : onlyRead s (operand8 src s).2 (src.reg s) := by
  cases src with
  | imm ii => exact onlyRead_refl s
  | mem m => exact readByte_onlyRead (ea m s) s

theorem operand16_onlyRead (src : Src16) (s : State) : onlyRead s (operand16 src s).2 (src.reg s) := by
  cases src with
  | imm w => exact onlyRead_refl s
  | mem m => exact read16_onlyRead (ea m s) s

/-! ### A register and an operand -/

/-- What a read changed is seen also after a change of CPU registers and flags. -/
theorem onlyRead_of_restAs {s u t : State} {reg : Bool} (hrest : restAs u t) (h : onlyRead s u reg) :
    onlyRead s t reg := by
  unfold restAs at hrest
  rw [hrest]
  exact h

theorem restAs_accSet (r : Acc) (v : Byte) (c : Ccr) (u : State) :
    restAs u (r.set v { u with ccr := c }) := by
  cases r <;> rfl

theorem restAs_reg16Set (r : Reg16) (v : Word) (c : Ccr) (u : State) :
    restAs u (r.set v { u with ccr := c }) := by
  cases r <;> rfl

theorem regs_accSet (r : Acc) (v : Byte) (c : Ccr) (u : State) :
    regs (r.set v { u with ccr := c }) = (regs u).withAcc r v := by
  cases r <;> rfl

theorem regs_reg16Set (r : Reg16) (v : Word) (c : Ccr) (u : State) :
    regs (r.set v { u with ccr := c }) = (regs u).withWide r v := by
  cases r <;> rfl

theorem acc_get_of_reads {s t : State} (h : ReadChanges s t) (r : Acc) : r.get t = r.get s :=
  h.field (fun u => r.get u) fun _ _ _ _ _ => by cases r <;> rfl

theorem reg16_get_of_reads {s t : State} (h : ReadChanges s t) (r : Reg16) : r.get t = r.get s :=
  h.field (fun u => r.get u) fun _ _ _ _ _ => by cases r <;> rfl

/-- An accumulator combined with an operand gets the value and the flags of the combination; else only what
reading the operand changes. -/
theorem accOp_becomes8 (r : Acc) (f : Byte → Byte → Ccr → Byte × Ccr) (src : Src8) (s : State) :
    becomes8 src s (accOp r f src s)
      ((regs s).withAcc r (f (r.get s) (operand8 src s).1 s.ccr).1)
      (f (r.get s) (operand8 src s).1 s.ccr).2 := by
  have hrest : restAs (operand8 src s).2 (accOp r f src s) := restAs_accSet r _ _ _
  have hget := acc_get_of_reads (operand8_reads src s) r
  have hregs := regs_of_reads (operand8_reads src s)
  refine ⟨⟨?regs, ?ccr, onlyRead_of_restAs hrest (operand8_onlyRead src s)⟩, hrest⟩
  case regs => simp only [accOp, regs_accSet, hregs, hget, operand8_ccr]
  case ccr => simp only [accOp, accSet_ccr, hget, operand8_ccr]

/-- A 16-bit register combined with an operand gets the value and the flags of the combination; else only what
reading the operand changes. -/
theorem wideOp_becomes16 (r : Reg16) (f : Word → Word → Ccr → Word × Ccr) (src : Src16) (s : State) :
    becomes16 src s (wideOp r f src s)
      ((regs s).withWide r (f (r.get s) (operand16 src s).1 s.ccr).1)
      (f (r.get s) (operand16 src s).1 s.ccr).2 := by
  have hrest : restAs (operand16 src s).2 (wideOp r f src s) := restAs_reg16Set r _ _ _
  have hget := reg16_get_of_reads (operand16_reads src s) r
  have hregs := regs_of_reads (operand16_reads src s)
  refine ⟨⟨?regs, ?ccr, onlyRead_of_restAs hrest (operand16_onlyRead src s)⟩, hrest⟩
  case regs => simp only [wideOp, regs_reg16Set, hregs, hget, operand16_ccr]
  case ccr => simp only [wideOp, reg16Set_ccr, hget, operand16_ccr]

/-! ### Loads -/

theorem load8_becomes8 (r : Acc) (src : Src8) (s : State) :
    becomes8 src s (load8 r src s) ((regs s).withAcc r (operand8 src s).1)
      (valueFlags8 s.ccr (operand8 src s).1) := by
  rw [← logic8_eq]
  exact accOp_becomes8 r _ src s

theorem load16_becomes16 (r : Reg16) (src : Src16) (s : State) :
    becomes16 src s (load16 r src s) ((regs s).withWide r (operand16 src s).1)
      (valueFlags16 s.ccr (operand16 src s).1) := by
  rw [← logic16_eq]
  exact wideOp_becomes16 r _ src s

/-- Settles O14: the address of each form, and the two loads by the rule of their shape. -/
theorem loadAccumulator : Obligations.LoadAccumulator := by
  refine ⟨?operands, ?loads⟩
  case operands =>
    intro s dd ii ff a m
    exact ⟨toNat_ea_dir dd s, rfl, toNat_add_zext16 s.ix ff, toNat_add_zext16 s.iy ff, rfl, rfl⟩
  case loads =>
    intro s src
    exact ⟨⟨_, rfl, load8_becomes8 .a src s⟩, ⟨_, rfl, load8_becomes8 .b src s⟩⟩

/-- Settles O15: the four loads by the rule of their shape. -/
theorem loadWide : Obligations.LoadWide := by
  refine ⟨fun s w m => ⟨rfl, rfl⟩, ?loads⟩
  intro s src i r h
  simp only [List.mem_cons, Prod.mk.injEq, List.not_mem_nil, or_false] at h
  obtain ⟨rfl, rfl⟩ | ⟨rfl, rfl⟩ | ⟨rfl, rfl⟩ | ⟨rfl, rfl⟩ := h
  case inl => exact ⟨_, rfl, load16_becomes16 .d src s⟩
  case inr.inl => exact ⟨_, rfl, load16_becomes16 .sp src s⟩
  case inr.inr.inl => exact ⟨_, rfl, load16_becomes16 .x src s⟩
  case inr.inr.inr => exact ⟨_, rfl, load16_becomes16 .y src s⟩

end Sys2Proof.Proofs
end

section
/-! SUPPORT.
Exceptions as rules: a frame is nine pushes, what pushes store and leave unchanged, where a vector is read and
what loading PC from it changes; and the illegal opcode trap. Settles O6.
-/

namespace Sys2Proof.Proofs

open Sys2Proof.Machine Sys2Proof.Laws

/-! ### Several pushes -/

/-- The `n` addresses from `sp` down. -/
def below (sp : Word) (n : Nat) (a : Word) : Prop := ∃ k : Nat, k < n ∧ a = sp - BitVec.ofNat 16 k

theorem below_self (sp : Word) (n : Nat) : below sp (n + 1) sp := ⟨0, Nat.succ_pos n, by simp⟩

theorem sub_one_sub_ofNat (a : Word) (k : Nat) :
    a - 1 - BitVec.ofNat 16 k = a - BitVec.ofNat 16 (k + 1) := by
  rw [BitVec.sub_sub, Nat.add_comm k 1, BitVec.ofNat_add]
  rfl

/-- The addresses below the next one down are among those below. -/
theorem below_succ {sp a : Word} {n : Nat} (h : below (sp - 1) n a) : below sp (n + 1) a := by
  obtain ⟨k, hk, rfl⟩ := h
  exact ⟨k + 1, Nat.succ_lt_succ hk, sub_one_sub_ofNat sp k⟩

/-- Fewer than 65536 addresses down from the next one do not come back. -/
theorem not_below_sub_one {sp : Word} {n : Nat} (hn : n < 65536) : ¬ below (sp - 1) n sp := by
  rintro ⟨k, hk, h⟩
  rw [sub_one_sub_ofNat] at h
  bv_omega

/-- Bytes pushed in the order of the list. -/
def pushes (bs : List Byte) (s : State) : State := bs.foldl (fun s v => push8 v s) s

theorem pushes_cons (v : Byte) (bs : List Byte) (s : State) :
    pushes (v :: bs) s = pushes bs (push8 v s) := rfl

/-- A push outside the register block keeps the map. -/
theorem push8_keeps_map {s : State} (v : Byte) (h : isReg s s.sp = false) :
    (push8 v s).sys = s.sys ∧ (push8 v s).env = s.env :=
  writeByte_keeps_map v h

/-- A push outside the register block changes the byte at SP only. -/
theorem push8_frame {s : State} (v : Byte) (h : isReg s s.sp = false) :
    memorySame s (push8 v s) (· = s.sp) ∧ devicesSame s (push8 v s) ∧ serialSame s (push8 v s) := by
  obtain ⟨_, _, frame, _⟩ := push8_storedAt v s
  exact frame h

theorem memorySame_mono {s t : State} {V W : Word → Prop} (h : memorySame s t V)
    (hVW : ∀ a, V a → W a) : memorySame s t W :=
  fun a ha => h a fun hV => ha (hVW a hV)

/-- Pushes outside the register block change the bytes below SP only. -/
theorem pushes_frame (bs : List Byte) : ∀ s : State,
    (∀ a, below s.sp bs.length a → isReg s a = false) →
      memorySame s (pushes bs s) (below s.sp bs.length) ∧ devicesSame s (pushes bs s) ∧
        serialSame s (pushes bs s) := by
  induction bs with
  | nil => exact fun s _ => ⟨fun _ _ hr => ⟨hr, rfl⟩, by simp [pushes, devicesSame], rfl, rfl⟩
  | cons v bs ih =>
    intro s h
    have hsp : isReg s s.sp = false := h _ (below_self _ _)
    obtain ⟨hsys, henv⟩ := push8_keeps_map v hsp
    obtain ⟨hmem, hdev, hser⟩ := push8_frame v hsp
    obtain ⟨hmem', hdev', hser'⟩ := ih (push8 v s) fun a ha => by
      rw [push8_sp] at ha
      rw [isReg_congr hsys henv]
      exact h a (below_succ ha)
    refine ⟨?_, devicesSame_trans hdev hdev', serialSame_trans hser hser'⟩
    refine memorySame_mono (memorySame_trans hmem hmem') fun a ha => ?_
    rw [push8_sp] at ha
    rcases ha with rfl | ha
    · exact below_self _ _
    · exact below_succ ha

/-- Pushes to memory that keeps what is written leave the bytes of the list below SP. -/
theorem peek_pushes (bs : List Byte) : ∀ s : State, bs.length ≤ 65536 →
    (∀ a, below s.sp bs.length a → isCell s a = true) →
      ∀ k : Nat, k < bs.length → peek (pushes bs s) (s.sp - BitVec.ofNat 16 k) = bs[k]? := by
  induction bs with
  | nil => exact fun _ _ _ _ hk => absurd hk (Nat.not_lt_zero _)
  | cons v bs ih =>
    intro s hlen h k hk
    have hcell : isCell s s.sp = true := h _ (below_self _ _)
    have hsp := isCell_notReg hcell
    obtain ⟨hsys, henv⟩ := push8_keeps_map v hsp
    have hcells : ∀ a, below (push8 v s).sp bs.length a → isCell (push8 v s) a = true := fun a ha => by
      rw [push8_sp] at ha
      rw [isCell_congr hsys henv]
      exact h a (below_succ ha)
    rw [pushes_cons]
    cases k with
    | zero =>
      obtain ⟨kept, _⟩ := pushes_frame bs (push8 v s) fun a ha => isCell_notReg (hcells a ha)
      have hnot : ¬ below (push8 v s).sp bs.length s.sp := by
        rw [push8_sp]
        exact not_below_sub_one hlen
      obtain ⟨_, hpeek⟩ := kept s.sp hnot (by rw [isReg_congr hsys henv, hsp])
      obtain ⟨_, _, _, stored⟩ := push8_storedAt v s
      simpa using hpeek.trans (stored hcell)
    | succ k =>
      have tail := ih (push8 v s) (Nat.le_of_succ_le hlen) hcells k (Nat.lt_of_succ_lt_succ hk)
      rw [push8_sp, sub_one_sub_ofNat] at tail
      simpa using tail

/-! ### The exception frame -/

/-- The frame is pushed from its highest byte down (60 R440, R441). -/
theorem stackRegisters_eq_pushes (s : State) : stackRegisters s = pushes (frameBytes s) s := by
  simp [stackRegisters, pushes, frameBytes, push16]

theorem stackRegisters_framed (s : State) : framed s (stackRegisters s) := by
  rw [stackRegisters_eq_pushes]
  exact ⟨pushes_frame (frameBytes s) s, peek_pushes (frameBytes s) s (by simp [frameBytes])⟩

/-- A frame stays while nothing is written outside the register block. -/
theorem framed_of_onlyRead {s t u : State} (h : framed s t) (hr : onlyRead t u false) :
    framed s u := by
  obtain ⟨hframe, hbytes⟩ := h
  obtain ⟨hmem, hdev, _, hser⟩ := hr
  refine ⟨fun hreg => ?_, fun hcell k hk => ?_⟩
  · obtain ⟨hmem', hdev', hser'⟩ := hframe hreg
    refine ⟨?_, devicesSame_trans hdev' hdev, serialSame_trans hser' (hser rfl)⟩
    exact memorySame_mono (memorySame_trans hmem' hmem) fun a ha => ha.resolve_right id
  · obtain ⟨_, hdev', _⟩ := hframe fun a ha => isCell_notReg (hcell a ha)
    obtain ⟨_, _, _, hsys, _, _, _, _, _, _, _, _, henv, _⟩ := hdev'
    have hnot : isReg t (s.sp - BitVec.ofNat 16 k) = false := by
      rw [isReg_congr hsys henv]
      exact isCell_notReg (hcell _ ⟨k, hk, rfl⟩)
    obtain ⟨_, hpeek⟩ := hmem _ id hnot
    rw [hpeek, hbytes hcell k hk]

/-! ### Vectors -/

/-- A vector and its second byte are at no offset of the register block, in any page. -/
def clearOfRegisters (w : Word) : Prop := 128 ≤ w.toNat % 4096 ∧ w.toNat % 4096 < 4095

theorem isReg_of_offset {a : Word} (s : State) (h : 128 ≤ a.toNat % 4096) : isReg s a = false := by
  have hnot : ¬ (a.toNat / 4096 = s.sys.init.toNat % 16 ∧ a.toNat % 4096 < 128) := by omega
  unfold isReg
  rw [resolve_by_page, if_neg hnot]
  split_ifs <;> rfl

/-- A vector is read outside the register block in every mode (20 R146, 60 R421). -/
theorem isReg_vectorAddr {w : Word} (s t : State) (h : clearOfRegisters w) :
    isReg t (vectorAddr s w) = false ∧ isReg t (vectorAddr s w + 1) = false := by
  obtain ⟨hlow, hhigh⟩ := h
  unfold vectorAddr
  split
  · exact ⟨isReg_of_offset t (by bv_omega), isReg_of_offset t (by bv_omega)⟩
  · exact ⟨isReg_of_offset t hlow, isReg_of_offset t (by bv_omega)⟩

/-- The masks of an entry set: I, and X where asked (60 R440). -/
def masked (x : Bool) (s : State) : State :=
  { s with ccr := { s.ccr with i := true, x := s.ccr.x || x } }

/-- Loading PC from a vector is a 16-bit read with the masks set. -/
theorem vectorTo_eq (w : Word) (x : Bool) (s : State) :
    vectorTo w x s = { (read16 (vectorAddr s w) (masked x s)).2 with
      pc := (read16 (vectorAddr s w) (masked x s)).1 } := rfl

/-- Loading PC from a vector changes else only what a read outside the register block changes. -/
theorem vectorTo_onlyRead {w : Word} (x : Bool) (s : State) (h : clearOfRegisters w) :
    onlyRead s (vectorTo w x s) false := by
  obtain ⟨hr, hr'⟩ := isReg_vectorAddr s (masked x s) h
  have hread := read16_onlyRead (vectorAddr s w) (masked x s)
  rw [hr, hr'] at hread
  rw [vectorTo_eq]
  exact onlyRead_of_restAs rfl hread

/-- A 16-bit read outside the register block pairs the two bytes that memory shows. -/
theorem read16_of_peek_outside {s : State} {a : Word} {h l : Byte} (hr : isReg s a = false)
    (hh : peek s a = some h) (hl : peek s (a + 1) = some l) : (read16 a s).1 = mk16 h l :=
  read16_of_peek (resolve_ne_reg hr _) hh (by rw [peek_readByte hr, hl])

/-- PC is loaded from the two bytes that memory shows at the vector. -/
theorem vectorTo_pc_of_peek {w : Word} {s : State} {h l : Byte} (x : Bool) (hw : clearOfRegisters w)
    (hh : peek s (vectorAddr s w) = some h) (hl : peek s (vectorAddr s w + 1) = some l) :
    (vectorTo w x s).pc = mk16 h l := by
  obtain ⟨hr, _⟩ := isReg_vectorAddr s (masked x s) hw
  rw [vectorTo_eq]
  exact read16_of_peek_outside hr hh hl

/-! ### Entries -/

/-- An entry changes SP and PC only of the CPU registers it began with (60 R440). -/
theorem regs_enter {s u : State} (w : Word) (x : Bool) (h : regs s = regs u) :
    regs (enter w x s) = { regs u with sp := u.sp - 9, pc := (enter w x s).pc } := by
  have hsp : s.sp = u.sp := congrArg Regs.sp h
  rw [← h, ← hsp]
  simp [regs]

theorem enter_framed {w : Word} (x : Bool) (s : State) (h : clearOfRegisters w) :
    framed s (enter w x s) :=
  framed_of_onlyRead (stackRegisters_framed s) (vectorTo_onlyRead x _ h)

/-- Where the frame reaches neither the register block nor the vector, PC is loaded from what the vector showed
before the entry (60 R440). -/
theorem enter_pc_of_peek {w : Word} {s : State} {h l : Byte} (x : Bool) (hw : clearOfRegisters w)
    (hreg : ∀ a, inFrame s.sp a → isReg s a = false) (hn : ¬ inFrame s.sp (vectorAddr s w))
    (hn' : ¬ inFrame s.sp (vectorAddr s w + 1)) (hh : peek s (vectorAddr s w) = some h)
    (hl : peek s (vectorAddr s w + 1) = some l) : (enter w x s).pc = mk16 h l := by
  obtain ⟨hframe, _⟩ := stackRegisters_framed s
  obtain ⟨hmem, ⟨_, _, _, hsys, _⟩, _⟩ := hframe hreg
  have haddr : vectorAddr (stackRegisters s) w = vectorAddr s w := by
    unfold vectorAddr State.smod
    rw [hsys]
  obtain ⟨hr, hr'⟩ := isReg_vectorAddr s s hw
  obtain ⟨_, hp⟩ := hmem _ hn hr
  obtain ⟨_, hp'⟩ := hmem _ hn' hr'
  exact vectorTo_pc_of_peek x hw (by rw [haddr, hp, hh]) (by rw [haddr, hp', hl])

/-! ### The illegal opcode trap -/

/-- Fetching changes PC, and else only what reads change. -/
def FetchChanges (s t : State) : Prop := ∃ pc, ReadChanges { s with pc := pc } t

theorem FetchChanges.refl (s : State) : FetchChanges s s := ⟨s.pc, .refl s⟩

theorem FetchChanges.trans {s t u : State} (h : FetchChanges s t) (k : FetchChanges t u) :
    FetchChanges s u := by
  obtain ⟨_, _, _, _, _, rfl⟩ := h
  obtain ⟨pc, sci, spi, draws, owed, rfl⟩ := k
  exact ⟨pc, sci, spi, draws, owed, rfl⟩

theorem fetch8_changes (s : State) : FetchChanges s (fetch8 s).2 := by
  obtain ⟨sci, spi, draws, owed, h⟩ := readByte_reads s.pc s
  exact ⟨s.pc + 1, sci, spi, draws, owed, by simp only [fetch8, h]⟩

theorem fetchBytes_changes (n : Nat) : ∀ s : State, FetchChanges s (fetchBytes n s).2 := by
  induction n with
  | zero => exact .refl
  | succ n ih => exact fun s => (fetch8_changes s).trans (ih _)

theorem fetchOperands_changes (page : Page) (op : Byte) (s : State) :
    FetchChanges s (fetchOperands page op s).2 := by
  unfold fetchOperands
  split
  · exact fetchBytes_changes _ s
  · exact .refl s

theorem fetch_changes (s : State) : FetchChanges s (fetch s).2 := by
  unfold fetch
  simp only
  split
  · exact (fetch8_changes s).trans (fetchOperands_changes _ _ _)
  · exact ((fetch8_changes s).trans (fetch8_changes _)).trans (fetchOperands_changes _ _ _)

/-- Fetching keeps the CPU registers but PC, and the flags. -/
theorem fetch_frame (s : State) :
    regs (fetch s).2 = { regs s with pc := (fetch s).2.pc } ∧ (fetch s).2.ccr = s.ccr := by
  obtain ⟨pc, sci, spi, draws, owed, h⟩ := fetch_changes s
  rw [h]
  exact ⟨rfl, rfl⟩

/-- Passing cycles keep the CPU registers and the flags. -/
theorem spend_frame {n : Nat} (hn : 2 ≤ n) (s : State) :
    regs (spend n s) = regs s ∧ (spend n s).ccr = s.ccr := by
  obtain ⟨_, _, _, _, _, _, _, _, _, h⟩ := spend_changes n hn s
  rw [h]
  exact ⟨rfl, rfl⟩

/-- Bytes that are no instruction take the trap after the cycles of an entry (30 R183, R184). -/
theorem runInstruction_of_illegal {s : State} {e : DecodeError} (hd : decode (fetch s).1 = .error e)
    (hc : resetCause (spend Config.entryCycles (fetch s).2) = none) :
    runInstruction s = .next (illegalTrap s.pc (spend Config.entryCycles (fetch s).2)) := by
  simp only [runInstruction, hd, afterCycles, unlessReset_of_none hc]

theorem illegalVector_clear : clearOfRegisters illegalVector := by
  unfold clearOfRegisters
  decide

/-- The trap begins with the registers and flags of the state before the fetch: cycles change none, and PC is
set back to the first byte. -/
theorem trap_start_frame {u t : State} (h : t = spend 14 (fetch u).2) :
    regs { t with pc := u.pc } = regs u ∧ t.ccr = u.ccr := by
  obtain ⟨hfetch, hccr⟩ := fetch_frame u
  obtain ⟨hspend, hccr'⟩ := spend_frame (n := 14) (by decide) (fetch u).2
  rw [← h] at hspend hccr'
  exact ⟨congrArg (fun g : Regs => { g with pc := u.pc }) (hspend.trans hfetch), hccr'.trans hccr⟩

/-- Settles O6: the step is the trap, and the trap is an entry with PC at the first byte. -/
theorem stepTrapsIllegal : Obligations.StepTrapsIllegal := by
  intro s u t e hc hr hn hu hd ht hreset
  obtain ⟨hregs, hccr⟩ := trap_start_frame ht
  have hsp : t.sp = u.sp := congrArg Regs.sp hregs
  have hstep : step s = .next (illegalTrap u.pc t) := by
    rw [step_of_running hc hr hn, ← hu, ht]
    exact runInstruction_of_illegal hd (ht ▸ hreset)
  refine ⟨_, hstep, regs_enter _ _ hregs, ?ccr, enter_framed false _ illegalVector_clear, ?pc⟩
  case ccr =>
    rw [← hccr]
    simp [illegalTrap]
  case pc =>
    rw [← hsp]
    intro h l hreg hv hv' hh hl
    exact enter_pc_of_peek (s := { t with pc := u.pc }) false illegalVector_clear hreg hv hv' hh hl

end Sys2Proof.Proofs
end

section
/-! SUPPORT.
Stores as rules: what an instruction that writes a register to memory, or reads a byte and writes it back,
makes of the state. Settles O16 and O17.
-/

namespace Sys2Proof.Proofs

open Sys2Proof.Machine Sys2Proof.Laws

/-! ### A byte written after it has been read -/

/-- A read keeps the map. -/
theorem resolve_readByte (a : Word) (s : State) (x : Word) : resolve (readByte a s).2 x = resolve s x :=
  resolve_congr (readByte_sys a s) (readByte_env a s) x

/-- A read changes no cell: a write after it lands where it would have landed without it. -/
theorem readByte_writeByte_landed (a : Word) (v : Byte) (s : State) :
    landed a v s (writeByte a v (readByte a s).2) := by
  obtain ⟨hcells, hframe, hpeek⟩ := writeByte_landed a v (readByte a s).2
  refine ⟨?cells, ?frame, ?peek⟩
  case cells =>
    intro r off hother hpprog
    simp only [cellsSame, resolve_readByte, readByte_mem] at hcells
    exact hcells r off hother hpprog
  case frame =>
    intro hreg
    obtain ⟨hmem, hdev, _, hser⟩ := readByte_onlyRead a s
    obtain ⟨hmem', hdev', hser'⟩ := hframe ((isReg_readByte a s a).trans hreg)
    exact ⟨memorySame_mono (memorySame_trans hmem hmem') fun _ hx => hx.resolve_left id,
      devicesSame_trans hdev hdev', serialSame_trans (hser hreg) hser'⟩
  case peek =>
    intro hcell
    exact hpeek ((isCell_congr (readByte_sys a s) (readByte_env a s) a).trans hcell)

/-- What a read and a write have stored does not depend on the CPU registers. -/
theorem modifiedAt_of_rest {a : Word} {v : Byte} {s t : State}
    (h : restAs (writeByte a v (readByte a s).2) t) : modifiedAt a v s t := by
  refine ⟨h, ?_⟩
  unfold restAs at h
  rw [h]
  exact readByte_writeByte_landed a v s

/-- A read-modify-write stores the value that it computes from the byte read and sets its flags; it writes no
register (20 R151). -/
theorem modifyByte_modifiedAt (f : Byte → Ccr → Byte × Ccr) (dst : MemOp) (s : State) :
    regs (modifyByte f dst s) = regs s ∧
      (modifyByte f dst s).ccr = (f (readByte (ea dst s) s).1 s.ccr).2 ∧
      modifiedAt (ea dst s) (f (readByte (ea dst s) s).1 s.ccr).1 s (modifyByte f dst s) := by
  have hccr : (readByte (ea dst s) s).2.ccr = s.ccr := readByte_ccr _ s
  refine ⟨?regs, ?ccr, modifiedAt_of_rest ?rest⟩
  case regs => exact (regs_writeByte _ _ _).trans (regs_of_reads (readByte_reads _ s))
  case ccr => simp only [modifyByte, hccr]
  case rest =>
    rw [← hccr]
    rfl

/-! ### Stores -/

theorem store8_storedAt (r : Acc) (dst : MemOp) (s : State) :
    regs (store8 r dst s) = regs s ∧ (store8 r dst s).ccr = valueFlags8 s.ccr (r.get s) ∧
      storedAt (ea dst s) (r.get s) s (store8 r dst s) := by
  refine ⟨regs_writeByte _ _ s, ?ccr, storedAt_of_rest rfl⟩
  case ccr => simp only [store8, writeByte_ccr, logic8_eq]

/-- What a write of a word has stored does not depend on the CPU registers. -/
theorem stored16At_of_rest {a v : Word} {s t : State} (h : restAs (write16 a v s) t) :
    stored16At a v s t := by
  refine ⟨h, ?_⟩
  unfold restAs at h
  rw [h]
  exact ⟨cellsSame_trans (writeByte_cells _ _ s) (writeByte_cells _ _ _), two_writes_frame _ _,
    two_writes_peek _ _ (by bv_omega)⟩

theorem regs_write16 (a v : Word) (s : State) : regs (write16 a v s) = regs s :=
  (regs_writeByte _ _ _).trans (regs_writeByte _ _ s)

theorem store16_stored16At (r : Reg16) (dst : MemOp) (s : State) :
    regs (store16 r dst s) = regs s ∧ (store16 r dst s).ccr = valueFlags16 s.ccr (r.get s) ∧
      stored16At (ea dst s) (r.get s) s (store16 r dst s) := by
  refine ⟨regs_write16 _ _ s, ?ccr, stored16At_of_rest rfl⟩
  case ccr => simp only [store16, write16_ccr, logic16_eq]

/-- Settles O16: two stores of an accumulator, and a read-modify-write whose value is zero. -/
theorem storeBytes : Obligations.StoreBytes := by
  intro s dst
  exact ⟨⟨_, rfl, store8_storedAt .a dst s⟩, ⟨_, rfl, store8_storedAt .b dst s⟩,
    ⟨_, rfl, modifyByte_modifiedAt clr8 dst s⟩⟩

/-- Settles O17: the four stores by the rule of their shape. -/
theorem storeWide : Obligations.StoreWide := by
  intro s dst i w h
  simp only [List.mem_cons, Prod.mk.injEq, List.not_mem_nil, or_false] at h
  obtain ⟨rfl, rfl⟩ | ⟨rfl, rfl⟩ | ⟨rfl, rfl⟩ | ⟨rfl, rfl⟩ := h
  case inl => exact ⟨_, rfl, store16_stored16At .d dst s⟩
  case inr.inl => exact ⟨_, rfl, store16_stored16At .sp dst s⟩
  case inr.inr.inl => exact ⟨_, rfl, store16_stored16At .x dst s⟩
  case inr.inr.inr => exact ⟨_, rfl, store16_stored16At .y dst s⟩

end Sys2Proof.Proofs
end

section
/-! SUPPORT.
Instructions that reach no memory: a change of CPU registers and flags leaves everything else alone; and the
condition codes as a byte. Settles O18, O19 and O21.
-/

namespace Sys2Proof.Proofs

open Sys2Proof.Machine Sys2Proof.Laws

/-! ### Registers and flags only -/

/-- A state that differs in CPU registers and flags only has had nothing else written. -/
theorem becomes_of_restAs {s t : State} (h : restAs s t) : becomes s t (regs t) t.ccr false :=
  ⟨rfl, rfl, onlyRead_of_restAs h (onlyRead_refl s)⟩

/-- An operation on an accumulator gives it the value and the flags of its function; nothing else changes. -/
theorem accUnary_becomes (r : Acc) (f : Byte → Ccr → Byte × Ccr) (s : State) :
    becomes s (accUnary r f s) ((regs s).withAcc r (f (r.get s) s.ccr).1) (f (r.get s) s.ccr).2 false := by
  have hrest : restAs s (accUnary r f s) := restAs_accSet r _ _ s
  exact ⟨regs_accSet r _ _ s, accSet_ccr _ _ r, onlyRead_of_restAs hrest (onlyRead_refl s)⟩

/-- Settles O19: each transfer writes CPU registers only, TAB and TBA with the flags of their value. -/
theorem transfers : Obligations.Transfers := by
  intro s
  refine ⟨?tab, ?tba, ?tsx, ?tsy, ?txs, ?tys, ?xgdx, ?xgdy⟩
  case tab =>
    rw [← logic8_eq]
    exact ⟨_, rfl, becomes_of_restAs rfl⟩
  case tba =>
    rw [← logic8_eq]
    exact ⟨_, rfl, becomes_of_restAs rfl⟩
  all_goals exact ⟨_, rfl, becomes_of_restAs rfl⟩

/-- Settles O21: the rows $4F and $5F of page 1, and an operation on an accumulator whose value is zero. -/
theorem clearAccumulators : Obligations.ClearAccumulators := by
  intro s rest
  have clra : lookup .p1 0x4F = some (.zero .clra) := rfl
  have clrb : lookup .p1 0x5F = some (.zero .clrb) := rfl
  exact ⟨decode_of_lookup clra rest, rfl, ⟨_, rfl, accUnary_becomes .a clr8 s⟩,
    decode_of_lookup clrb rest, rfl, ⟨_, rfl, accUnary_becomes .b clr8 s⟩⟩

/-! ### The condition codes as a byte -/

/-- Where each condition code stands in its byte (10 R25). -/
theorem bit_toByte {k : Nat} (hk : k < 8) (c : Ccr) : bit c.toByte k =
    ((c.s && decide (k = 7)) || (c.x && decide (k = 6)) || (c.h && decide (k = 5)) ||
      (c.i && decide (k = 4)) || (c.n && decide (k = 3)) || (c.z && decide (k = 2)) ||
      (c.v && decide (k = 1)) || (c.c && decide (k = 0))) := by
  simp only [Ccr.toByte, bit_or, bit_bitAt hk]

/-- The condition codes are recovered from their byte. -/
theorem ofByte_toByte (c : Ccr) : Ccr.ofByte c.toByte = c := by
  simp [Ccr.ofByte, bit_toByte]

/-- Loading the condition codes from a byte takes every bit but X, which it can only clear (10 R27). -/
theorem toByte_load (c : Ccr) (b : Byte) :
    (c.load b).toByte = (b &&& 0xBF) ||| (b &&& c.toByte &&& 0x40) := by
  apply eq_of_bits
  intro k hk
  simp only [bit_or, bit_and, bit_toByte hk, Ccr.load, Ccr.ofByte]
  interval_cases k <;> simp [Bool.and_comm]

/-- Bit 4 of a byte, the place of I, as a number. -/
theorem not_bit_four (b : Byte) : (!bit b 4) = decide (b.toNat / 16 % 2 = 0) := by
  rw [bit, BitVec.getLsbD, Nat.testBit_eq_decide_div_mod_eq, ← decide_not]
  exact decide_eq_decide.2 Nat.mod_two_ne_one

/-- Settles O18: TAP loads the condition codes from A, TPA writes A only. -/
theorem conditionCodeTransfers : Obligations.ConditionCodeTransfers := by
  intro s
  refine ⟨⟨_, rfl, ?inhibit, toByte_load s.ccr s.a, onlyRead_of_restAs rfl (onlyRead_refl s)⟩,
    ⟨_, rfl, becomes_of_restAs rfl, ofByte_toByte s.ccr⟩⟩
  case inhibit => simp only [regs, not_bit_four]

end Sys2Proof.Proofs
end

section
/-! SUPPORT.
Operations with an operand and their answers: where the function of an accumulator or of a 16-bit register is known
to answer a value and flags, the instruction leaves them and changes nothing else. Settles O22 to O25.
-/

namespace Sys2Proof.Proofs

open Sys2Proof.Machine Sys2Proof.Laws

/-! ### What an operation leaves where its function answers `(v, c)` -/

section

variable {s : State} {r : Acc} {w : Reg16} {c : Ccr}

theorem accOp_answers {f : Byte → Byte → Ccr → Byte × Ccr} {src : Src8} {v : Byte}
    (h : f (r.get s) (operand8 src s).1 s.ccr = (v, c)) :
    becomes8 src s (accOp r f src s) ((regs s).withAcc r v) c := by
  have hop := accOp_becomes8 r f src s
  rwa [h] at hop

/-- An accumulator combined with a byte at hand, for which no memory is read. -/
theorem accOp_imm_answers {f : Byte → Byte → Ccr → Byte × Ccr} {m v : Byte}
    (h : f (r.get s) m s.ccr = (v, c)) :
    becomes s (accOp r f (.imm m) s) ((regs s).withAcc r v) c false :=
  (accOp_answers (src := .imm m) h).1

theorem wideOp_answers {f : Word → Word → Ccr → Word × Ccr} {src : Src16} {v : Word}
    (h : f (w.get s) (operand16 src s).1 s.ccr = (v, c)) :
    becomes16 src s (wideOp w f src s) ((regs s).withWide w v) c := by
  have hop := wideOp_becomes16 w f src s
  rwa [h] at hop

/-- A comparison keeps the registers and takes the flags; else only what reading the operand changes. -/
theorem accTest_answers {f : Byte → Byte → Ccr → Byte × Ccr} {src : Src8} {v : Byte}
    (h : f (r.get s) (operand8 src s).1 s.ccr = (v, c)) :
    becomes8 src s (accTest r f src s) (regs s) c := by
  have hreads := operand8_reads src s
  have hregs := regs_of_reads hreads
  refine ⟨⟨hregs, ?ccr, onlyRead_of_restAs rfl (operand8_onlyRead src s)⟩, rfl⟩
  case ccr => simp only [accTest, acc_get_of_reads hreads r, operand8_ccr, h]

/-- An accumulator compared with a byte at hand, for which no memory is read. -/
theorem accTest_imm_answers {f : Byte → Byte → Ccr → Byte × Ccr} {m v : Byte}
    (h : f (r.get s) m s.ccr = (v, c)) : becomes s (accTest r f (.imm m) s) (regs s) c false :=
  (accTest_answers (src := .imm m) h).1

/-- A 16-bit comparison keeps the registers and takes the flags; else only what reading the operand changes. -/
theorem wideTest_answers {f : Word → Word → Ccr → Word × Ccr} {src : Src16} {v : Word}
    (h : f (w.get s) (operand16 src s).1 s.ccr = (v, c)) :
    becomes16 src s (wideTest w f src s) (regs s) c := by
  have hreads := operand16_reads src s
  have hregs := regs_of_reads hreads
  refine ⟨⟨hregs, ?ccr, onlyRead_of_restAs rfl (operand16_onlyRead src s)⟩, rfl⟩
  case ccr => simp only [wideTest, reg16_get_of_reads hreads w, operand16_ccr, h]

end

/-! ### Additions, subtractions, comparisons -/

/-- Settles O22: five operations whose function is the 8-bit adder. -/
theorem addition8 : Obligations.Addition8 := by
  rintro s src m rfl
  exact ⟨⟨_, rfl, accOp_imm_answers (add8_eq s.a s.b false s.ccr)⟩,
    ⟨_, rfl, accOp_answers (add8_eq s.a _ false s.ccr)⟩,
    ⟨_, rfl, accOp_answers (add8_eq s.b _ false s.ccr)⟩,
    ⟨_, rfl, accOp_answers (add8_eq s.a _ s.ccr.c s.ccr)⟩,
    ⟨_, rfl, accOp_answers (add8_eq s.b _ s.ccr.c s.ccr)⟩⟩

/-- Settles O23: five operations whose function is the 8-bit subtractor. -/
theorem subtraction8 : Obligations.Subtraction8 := by
  rintro s src m rfl
  exact ⟨⟨_, rfl, accOp_imm_answers (sub8_eq s.a s.b false s.ccr)⟩,
    ⟨_, rfl, accOp_answers (sub8_eq s.a _ false s.ccr)⟩,
    ⟨_, rfl, accOp_answers (sub8_eq s.b _ false s.ccr)⟩,
    ⟨_, rfl, accOp_answers (sub8_eq s.a _ s.ccr.c s.ccr)⟩,
    ⟨_, rfl, accOp_answers (sub8_eq s.b _ s.ccr.c s.ccr)⟩⟩

/-- Settles O24: the flags of the two subtractors, the difference discarded. -/
theorem comparisons : Obligations.Comparisons := by
  refine ⟨?bytes, ?words⟩
  case bytes =>
    rintro s src m rfl
    exact ⟨⟨_, rfl, accTest_imm_answers (sub8_eq s.a s.b false s.ccr)⟩,
      ⟨_, rfl, accTest_answers (sub8_eq s.a _ false s.ccr)⟩,
      ⟨_, rfl, accTest_answers (sub8_eq s.b _ false s.ccr)⟩⟩
  case words =>
    intro s src i w h
    simp only [List.mem_cons, Prod.mk.injEq, List.not_mem_nil, or_false] at h
    obtain ⟨rfl, rfl⟩ | ⟨rfl, rfl⟩ | ⟨rfl, rfl⟩ := h
    case inl => exact ⟨_, rfl, wideTest_answers (sub16_eq (mk16 s.a s.b) _ s.ccr)⟩
    case inr.inl => exact ⟨_, rfl, wideTest_answers (sub16_eq s.ix _ s.ccr)⟩
    case inr.inr => exact ⟨_, rfl, wideTest_answers (sub16_eq s.iy _ s.ccr)⟩

/-- Settles O25: the 16-bit adder and subtractor on D. -/
theorem arithmetic16 : Obligations.Arithmetic16 := by
  rintro s src d m rfl rfl
  exact ⟨⟨_, rfl, wideOp_answers (add16_eq (mk16 s.a s.b) _ s.ccr)⟩,
    ⟨_, rfl, wideOp_answers (sub16_eq (mk16 s.a s.b) _ s.ccr)⟩⟩

end Sys2Proof.Proofs
end

section
/-! SUPPORT.
Operations on one value, a byte in memory or an accumulator, said as arithmetic; and the index registers and SP
counted up and down. Settles O26, O28 and O29.
-/

namespace Sys2Proof.Proofs

open Sys2Proof.Machine Sys2Proof.Laws

/-! ### What an operation leaves where its function answers `(v, c)` -/

section

variable {s : State} {f : Byte → Ccr → Byte × Ccr} {v : Byte} {c : Ccr}

theorem accUnary_answers {r : Acc} (h : f (r.get s) s.ccr = (v, c)) :
    becomes s (accUnary r f s) ((regs s).withAcc r v) c false := by
  have hop := accUnary_becomes r f s
  rwa [h] at hop

theorem modifyByte_answers {dst : MemOp} (h : f (readByte (ea dst s) s).1 s.ccr = (v, c)) :
    regs (modifyByte f dst s) = regs s ∧ modifiedAt (ea dst s) v s (modifyByte f dst s) ∧
      (modifyByte f dst s).ccr = c := by
  obtain ⟨hregs, hccr, hmem⟩ := modifyByte_modifiedAt f dst s
  rw [h] at hccr hmem
  exact ⟨hregs, hmem, hccr⟩

/-- A test of a memory byte takes the flags; else only what reading the byte changes. -/
theorem memTest_answers {src : MemOp} (h : f (readByte (ea src s) s).1 s.ccr = (v, c)) :
    becomes8 (.mem src) s (memTest f src s) (regs s) c := by
  have hregs := regs_of_reads (readByte_reads (ea src s) s)
  refine ⟨⟨hregs, ?ccr, onlyRead_of_restAs rfl (operand8_onlyRead (.mem src) s)⟩, rfl⟩
  case ccr => simp only [memTest, readByte_ccr, h]

end

/-! ### The functions as arithmetic -/

/-- One more: the signed result does not fit exactly where the byte is $7F (41 R282). -/
theorem inc8_eq (m : Byte) (c : Ccr) :
    inc8 m c = (m + 1, { valueFlags8 c (m + 1) with v := decide (127 < m.toInt + 1) }) := by
  have hv : (m == 0x7F) = decide (127 < m.toInt + 1) := by
    rw [beq_toNat, toInt8, decide_eq_decide, show (0x7F : Byte).toNat = 127 from rfl]
    split <;> omega
  rw [inc8, hv, ← logic8_eq]
  rfl

/-- One less: the signed result does not fit exactly where the byte is $80 (41 R276). -/
theorem dec8_eq (m : Byte) (c : Ccr) :
    dec8 m c = (m - 1, { valueFlags8 c (m - 1) with v := decide (m.toInt - 1 < -128) }) := by
  have hv : (m == 0x80) = decide (m.toInt - 1 < -128) := by
    rw [beq_toNat, toInt8, decide_eq_decide, show (0x80 : Byte).toNat = 128 from rfl]
    split <;> omega
  rw [dec8, hv, ← logic8_eq]
  rfl

/-- Zero minus the byte: V where the result is $80, which is the signed overflow, and C where it is not zero
(41 R288). -/
theorem neg8_eq (m : Byte) (c : Ccr) :
    neg8 m c = (0 - m, { valueFlags8 c (0 - m) with
      v := decide (127 < -m.toInt), c := decide (m.toNat ≠ 0) }) := by
  have hr : (0 - m).toNat = (256 - m.toNat) % 256 := by simp
  have hv : ((0 - m) == 0x80) = decide (127 < -m.toInt) := by
    rw [beq_toNat, toInt8, decide_eq_decide, hr, show (0x80 : Byte).toNat = 128 from rfl]
    split <;> omega
  have hc : ((0 - m) != 0) = decide (m.toNat ≠ 0) := by
    rw [bne, beq_toNat, ← decide_not, decide_eq_decide, hr, show (0 : Byte).toNat = 0 from rfl]
    omega
  simp only [neg8, hv, hc, ← logic8_eq]
  rfl

/-- $FF minus the byte is its complement (42 R319). -/
theorem com8_eq (m : Byte) (c : Ccr) :
    com8 m c = (0xFF - m, { valueFlags8 c (0xFF - m) with c := true }) := by
  have hr : ~~~m = 0xFF - m := by bv_omega
  rw [com8, hr, logic8_eq]

theorem tst8_eq (m : Byte) (c : Ccr) : tst8 m c = (m, { valueFlags8 c m with c := false }) := by
  rw [tst8, logic8_eq]

/-- Settles O28: increment and decrement of a byte in memory and of both accumulators. -/
theorem incrementDecrement : Obligations.IncrementDecrement := by
  rintro s dst m rfl
  exact ⟨⟨_, rfl, modifyByte_answers (inc8_eq _ s.ccr)⟩, ⟨_, rfl, modifyByte_answers (dec8_eq _ s.ccr)⟩,
    ⟨_, rfl, accUnary_answers (inc8_eq s.a s.ccr)⟩, ⟨_, rfl, accUnary_answers (inc8_eq s.b s.ccr)⟩,
    ⟨_, rfl, accUnary_answers (dec8_eq s.a s.ccr)⟩, ⟨_, rfl, accUnary_answers (dec8_eq s.b s.ccr)⟩⟩

/-- Settles O29: negation and complement write their result back, a test writes the value it read or nothing. -/
theorem negateComplementTest : Obligations.NegateComplementTest := by
  rintro s dst m rfl
  refine ⟨?neg, ?com, ?tst⟩
  case neg =>
    exact ⟨⟨_, rfl, modifyByte_answers (neg8_eq _ s.ccr)⟩, ⟨_, rfl, accUnary_answers (neg8_eq s.a s.ccr)⟩,
      ⟨_, rfl, accUnary_answers (neg8_eq s.b s.ccr)⟩⟩
  case com =>
    exact ⟨⟨_, rfl, modifyByte_answers (com8_eq _ s.ccr)⟩, ⟨_, rfl, accUnary_answers (com8_eq s.a s.ccr)⟩,
      ⟨_, rfl, accUnary_answers (com8_eq s.b s.ccr)⟩⟩
  case tst =>
    exact ⟨⟨_, rfl, memTest_answers (tst8_eq _ s.ccr)⟩, ⟨_, rfl, accUnary_answers (tst8_eq s.a s.ccr)⟩,
      ⟨_, rfl, accUnary_answers (tst8_eq s.b s.ccr)⟩⟩

/-! ### Index registers and the stack pointer -/

/-- B is added to an index register as a number (41 R256). -/
theorem add_zext16_eq_ofNat (w : Word) (b : Byte) : w + zext16 b = BitVec.ofNat 16 (w.toNat + b.toNat) := by
  apply BitVec.eq_of_toNat_eq
  rw [toNat_add_zext16, BitVec.toNat_ofNat]

theorem add_one_beq_zero (w : Word) : (w + 1 == 0) = decide (w.toNat = 65535) := by
  rw [beq_toNat, decide_eq_decide]
  bv_omega

theorem sub_one_beq_zero (w : Word) : (w - 1 == 0) = decide (w.toNat = 1) := by
  rw [beq_toNat, decide_eq_decide]
  bv_omega

/-- Settles O26: eight inherent rows, each of which writes one register and at most Z. -/
theorem indexArithmetic : Obligations.IndexArithmetic := by
  intro s rest
  have abx : lookup .p1 0x3A = some (.zero .abx) := rfl
  have aby : lookup .p2 0x3A = some (.zero .aby) := rfl
  have inx : lookup .p1 0x08 = some (.zero .inx) := rfl
  have iny : lookup .p2 0x08 = some (.zero .iny) := rfl
  have dex : lookup .p1 0x09 = some (.zero .dex) := rfl
  have dey : lookup .p2 0x09 = some (.zero .dey) := rfl
  have ins : lookup .p1 0x31 = some (.zero .ins) := rfl
  have des : lookup .p1 0x34 = some (.zero .des) := rfl
  simp only [← add_zext16_eq_ofNat, ← add_one_beq_zero, ← sub_one_beq_zero]
  exact ⟨⟨decode_inherent abx rest, rfl, _, rfl, becomes_of_restAs rfl⟩,
    ⟨decode_inherent aby rest, rfl, _, rfl, becomes_of_restAs rfl⟩,
    ⟨decode_inherent inx rest, rfl, _, rfl, becomes_of_restAs rfl⟩,
    ⟨decode_inherent iny rest, rfl, _, rfl, becomes_of_restAs rfl⟩,
    ⟨decode_inherent dex rest, rfl, _, rfl, becomes_of_restAs rfl⟩,
    ⟨decode_inherent dey rest, rfl, _, rfl, becomes_of_restAs rfl⟩,
    ⟨decode_inherent ins rest, rfl, _, rfl, becomes_of_restAs rfl⟩,
    ⟨decode_inherent des rest, rfl, _, rfl, becomes_of_restAs rfl⟩⟩

end Sys2Proof.Proofs
end

section
/-! SUPPORT.
Decimal adjust: the corrections are made exactly where a decimal digit carries. Settles O27.
-/

namespace Sys2Proof.Proofs

open Sys2Proof.Machine Sys2Proof.Laws

/-- Drawing a free value changes nothing that can be looked at. -/
theorem drawn_onlyRead (s : State) : onlyRead s s.drawn false :=
  onlyRead_of_reads (drawByte_reads s) fun _ => ⟨rfl, rfl⟩

/-! ### DAA for every state -/

/-- DAA answers the sum of A and the correction, with C set or kept (41 R275). -/
theorem daa8_eq (v : Bool) (a : Byte) (c : Ccr) :
    daa8 v a c = (a + daaCorrection a c, { valueFlags8 c (a + daaCorrection a c) with
      v := v, c := c.c || decide (0x60 ≤ (daaCorrection a c).toNat) }) := by
  simp only [daa8, ← logic8_eq]
  rfl

/-- DAA writes A and its flags, and draws a free value for V. -/
theorem execDaa_completes (s : State) : completes .daa s fun t =>
    becomes s t ((regs s).withAcc .a (s.a + daaCorrection s.a s.ccr))
      { valueFlags8 s.ccr (s.a + daaCorrection s.a s.ccr) with
        v := t.ccr.v, c := s.ccr.c || decide (0x60 ≤ (daaCorrection s.a s.ccr).toNat) } false := by
  obtain ⟨hregs, hccr, hread⟩ : becomes s.drawn (accUnary .a (daa8 (drawBit s).1) s.drawn) _ _ _ :=
    accUnary_answers (daa8_eq (drawBit s).1 s.a s.ccr)
  refine ⟨_, rfl, hregs, ?ccr, onlyRead_trans (drawn_onlyRead s) hread⟩
  case ccr => exact hccr

/-! ### DAA after an addition of packed decimal bytes -/

/-- The correction as a number: 6 for the low digit, 96 for the high one (41 R275). -/
theorem toNat_daaCorrection (a : Byte) (c : Ccr) : (daaCorrection a c).toNat =
    (if c.h = true ∨ 9 < a.toNat % 16 then 6 else 0) +
      (if c.c = true ∨ 9 < a.toNat / 16 ∨ (a.toNat / 16 = 9 ∧ 9 < a.toNat % 16) then 96 else 0) := by
  simp only [daaCorrection]
  split <;> split <;> rfl

/-- The number that two packed decimal digits stand for. -/
def decimal (b : Nat) : Nat := b / 16 * 10 + b % 16

/-- The low digit is corrected exactly where the low digits carry in decimal. -/
theorem low_corrected_iff {x y : Nat} (hx : x % 16 < 10) (hy : y % 16 < 10) :
    (16 ≤ x % 16 + y % 16 ∨ 9 < (x + y) % 256 % 16) ↔ 10 ≤ x % 16 + y % 16 := by
  omega

/-- The high digit is corrected exactly where the decimal sum is 100 or more. -/
theorem high_corrected_iff {x y : Nat} (hx : x / 16 < 10 ∧ x % 16 < 10) (hy : y / 16 < 10 ∧ y % 16 < 10) :
    (256 ≤ x + y ∨ 9 < (x + y) % 256 / 16 ∨ ((x + y) % 256 / 16 = 9 ∧ 9 < (x + y) % 256 % 16)) ↔
      100 ≤ decimal x + decimal y := by
  unfold decimal
  omega

/-- The binary sum of two packed decimal bytes, with 6 and 96 added where the digits carry, is the packed decimal
sum: 16 is taken for 10 in the low digit and 256 for 160 in the high one. -/
theorem decimal_corrected_sum {x y r : Nat} (hx : x / 16 < 10 ∧ x % 16 < 10)
    (hy : y / 16 < 10 ∧ y % 16 < 10)
    (hr : r = ((x + y) % 256 + ((if 10 ≤ x % 16 + y % 16 then 6 else 0) +
      (if 100 ≤ decimal x + decimal y then 96 else 0))) % 256) :
    decimal r = (decimal x + decimal y) % 100 ∧ r % 16 < 10 := by
  have hsum : r + (if 100 ≤ decimal x + decimal y then 160 else 0) =
      x + y + (if 10 ≤ x % 16 + y % 16 then 6 else 0) := by
    unfold decimal at *
    split_ifs at hr ⊢ <;> omega
  clear hr
  unfold decimal at *
  split_ifs at hsum <;> omega

/-- After an addition of packed decimal bytes the correction is 6 and 96 where the decimal digits carry. -/
theorem toNat_daaCorrection_sum {c : Ccr} {x y : Byte} (hx : x.toNat / 16 < 10 ∧ x.toNat % 16 < 10)
    (hy : y.toNat / 16 < 10 ∧ y.toNat % 16 < 10) :
    (daaCorrection (BitVec.ofNat 8 (sum8 x y false)) (sumFlags8 c x y false)).toNat =
      (if 10 ≤ x.toNat % 16 + y.toNat % 16 then 6 else 0) +
        (if 100 ≤ decimal x.toNat + decimal y.toNat then 96 else 0) := by
  simp only [toNat_daaCorrection, sumFlags8, decide_eq_true_eq, BitVec.toNat_ofNat]
  simp only [sum8, Bool.toNat_false, Nat.add_zero, Nat.reducePow, low_corrected_iff hx.2 hy.2,
    high_corrected_iff hx hy]

/-- What ADDA of an immediate byte leaves in A and in the flags (41 R260). -/
theorem adda_imm_answers {s t : State} {m : Byte} (h : exec (.adda (.imm m)) s = .next t) :
    t.a = BitVec.ofNat 8 (sum8 s.a m false) ∧ t.ccr = sumFlags8 s.ccr s.a m false := by
  obtain ⟨-, ⟨u, hu, ⟨hregs, hccr, -⟩, -⟩, -⟩ := addition8 s (.imm m) m rfl
  cases hu.symm.trans h
  exact ⟨congrArg Regs.a hregs, hccr⟩

/-- C after the addition or from the high correction: the decimal sum is 100 or more. -/
theorem daa_carry_eq {c : Ccr} {x y : Byte} (hx : x.toNat / 16 < 10 ∧ x.toNat % 16 < 10)
    (hy : y.toNat / 16 < 10 ∧ y.toNat % 16 < 10) :
    ((sumFlags8 c x y false).c ||
      decide (0x60 ≤ (daaCorrection (BitVec.ofNat 8 (sum8 x y false)) (sumFlags8 c x y false)).toNat)) =
      decide (100 ≤ decimal x.toNat + decimal y.toNat) := by
  have hcarry : 256 ≤ x.toNat + y.toNat → 100 ≤ decimal x.toNat + decimal y.toNat :=
    fun h => (high_corrected_iff hx hy).1 (.inl h)
  rw [toNat_daaCorrection_sum hx hy, sumFlags8, ← Bool.decide_or, decide_eq_decide]
  simp only [sum8, Bool.toNat_false, Nat.add_zero]
  split_ifs <;> omega

/-- Settles O27: DAA in general, and after ADDA by the corrections that its flags and digits call for. -/
theorem decimalAdjust : Obligations.DecimalAdjust := by
  refine ⟨?always, ?sum⟩
  case always =>
    intro s
    obtain ⟨t, hexec, hregs, hccr, hread⟩ := execDaa_completes s
    have ha : t.a = s.a + daaCorrection s.a s.ccr := congrArg Regs.a hregs
    refine ⟨t, hexec, ?regs, ?ccr, ?carry, hread⟩
    case regs => rw [hregs, ha]; rfl
    case ccr => rw [ha, hccr]; rfl
    case carry =>
      intro hc
      rw [hccr]
      simp [hc]
  case sum =>
    intro s t m hsh hsl hmh hml hadda
    obtain ⟨ha, hflags⟩ := adda_imm_answers hadda
    obtain ⟨u, hexec, hregs, hccr, -⟩ := execDaa_completes t
    have hu : u.a = t.a + daaCorrection t.a t.ccr := congrArg Regs.a hregs
    rw [ha, hflags] at hu hccr
    have hr := congrArg BitVec.toNat hu
    simp only [BitVec.toNat_add, toNat_daaCorrection_sum ⟨hsh, hsl⟩ ⟨hmh, hml⟩, BitVec.toNat_ofNat] at hr
    obtain ⟨hsum, hlow⟩ := decimal_corrected_sum ⟨hsh, hsl⟩ ⟨hmh, hml⟩ hr
    exact ⟨u, hexec, hsum, hlow, (congrArg Ccr.c hccr).trans (daa_carry_eq ⟨hsh, hsl⟩ ⟨hmh, hml⟩)⟩

end Sys2Proof.Proofs
end

section
/-! SUPPORT.
Multiplication and division: products, quotients and remainders as numbers in D and IX. Settles O30.
-/

namespace Sys2Proof.Proofs

open Sys2Proof.Machine Sys2Proof.Laws

/-! ### The product -/

/-- The product of two bytes fits a word (41 R294). -/
theorem toNat_mul_zext16 (a b : Byte) : (zext16 a * zext16 b).toNat = a.toNat * b.toNat := by
  have hfits : a.toNat * b.toNat < 2 ^ 8 * 2 ^ 8 := Nat.mul_lt_mul'' a.isLt b.isLt
  have hzext (x : Byte) : (zext16 x).toNat = x.toNat := BitVec.toNat_setWidth_of_le (by decide)
  rw [BitVec.toNat_mul, hzext, hzext]
  exact Nat.mod_eq_of_lt hfits

/-- Bit 7 of a word, as a number. -/
theorem getLsbD_seven (w : Word) : w.getLsbD 7 = decide (128 ≤ w.toNat % 256) := by
  rw [BitVec.getLsbD, Nat.testBit_eq_decide_div_mod_eq, decide_eq_decide]
  omega

/-- MUL leaves the product in D and its bit 7 in C (41 R294). -/
theorem mulD_answers (s : State) :
    (mk16 (mulD s).a (mulD s).b).toNat = s.a.toNat * s.b.toNat ∧
      (mulD s).ccr = { s.ccr with c := decide (128 ≤ s.a.toNat * s.b.toNat % 256) } := by
  refine ⟨?product, ?ccr⟩
  case product =>
    rw [← toNat_mul_zext16]
    exact congrArg BitVec.toNat (mk16_hi8_lo8 _)
  case ccr =>
    rw [← toNat_mul_zext16, ← getLsbD_seven]
    rfl

/-! ### Quotient and remainder -/

/-- The state has the quotient of `n` by `m` in IX and the remainder in D, Z from the quotient, V and C clear
(41 R295, R296). -/
def holdsDivision (n m : Nat) (s t : State) : Prop :=
  m * t.ix.toNat + (mk16 t.a t.b).toNat = n ∧ (mk16 t.a t.b).toNat < m ∧
    t.ccr = { s.ccr with z := decide (t.ix.toNat = 0), v := false, c := false }

/-- A division whose quotient fits a word leaves both its results. -/
theorem divided_holdsDivision {n : Nat} {s : State} (hpos : 0 < s.ix.toNat)
    (hfits : n / s.ix.toNat < 65536) :
    holdsDivision n s.ix.toNat s (divided (n / s.ix.toNat) (n % s.ix.toNat) s) := by
  have hrem : n % s.ix.toNat < s.ix.toNat := Nat.mod_lt n hpos
  have hd : (mk16 (divided (n / s.ix.toNat) (n % s.ix.toNat) s).a
      (divided (n / s.ix.toNat) (n % s.ix.toNat) s).b).toNat = n % s.ix.toNat := by
    have hword := mk16_hi8_lo8 (BitVec.ofNat 16 (n % s.ix.toNat))
    refine (congrArg BitVec.toNat hword).trans ?_
    rw [BitVec.toNat_ofNat, Nat.mod_eq_of_lt (hrem.trans s.ix.isLt)]
  have hq : (divided (n / s.ix.toNat) (n % s.ix.toNat) s).ix.toNat = n / s.ix.toNat :=
    (BitVec.toNat_ofNat _ _).trans (Nat.mod_eq_of_lt hfits)
  refine ⟨?identity, ?remainder, ?ccr⟩
  case identity => rw [hd, hq, Nat.div_add_mod]
  case remainder => rwa [hd]
  case ccr =>
    have hz := beq_toNat (BitVec.ofNat 16 (n / s.ix.toNat)) 0
    exact congrArg (fun z => { s.ccr with z := z, v := false, c := false }) hz

theorem divided_onlyRead (q r : Nat) (s : State) : onlyRead s (divided q r s) false :=
  onlyRead_of_restAs rfl (onlyRead_refl s)

/-- Where there is no quotient a free value is drawn for D. -/
theorem notDivided_onlyRead (v c : Bool) (s : State) : onlyRead s (notDivided v c s) false :=
  onlyRead_of_restAs rfl (drawn_onlyRead s)

/-! ### The cases of IDIV and FDIV -/

section

variable {s : State}

theorem integerDivide_by_zero (h : s.ix.toNat = 0) : integerDivide s = notDivided false true s :=
  if_pos (BitVec.eq_of_toNat_eq h)

theorem integerDivide_of_pos (h : 0 < s.ix.toNat) : integerDivide s =
    divided ((mk16 s.a s.b).toNat / s.ix.toNat) ((mk16 s.a s.b).toNat % s.ix.toNat) s :=
  if_neg fun h0 => h.ne' (congrArg BitVec.toNat h0)

/-- FDIV has no quotient below 1 where D is not below IX; C tells a zero divisor (41 R296). -/
theorem fractionalDivide_of_le (h : s.ix.toNat ≤ (mk16 s.a s.b).toNat) :
    fractionalDivide s = notDivided true (decide (s.ix.toNat = 0)) s := by
  by_cases hz : s.ix = 0
  · rw [fractionalDivide, if_pos hz, hz]
    rfl
  · have hne : s.ix.toNat ≠ 0 := fun h0 => hz (BitVec.eq_of_toNat_eq h0)
    rw [decide_eq_false hne]
    exact (if_neg hz).trans (if_pos h)

theorem fractionalDivide_of_lt (h : (mk16 s.a s.b).toNat < s.ix.toNat) : fractionalDivide s =
    divided ((mk16 s.a s.b).toNat * 65536 / s.ix.toNat) ((mk16 s.a s.b).toNat * 65536 % s.ix.toNat) s :=
  (if_neg fun h0 => (Nat.zero_lt_of_lt h).ne' (congrArg BitVec.toNat h0)).trans (if_neg h.not_ge)

end

/-- Settles O30: the product, and the two divisions by whether there is a quotient. -/
theorem multiplyDivide : Obligations.MultiplyDivide := by
  rintro s d rfl
  refine ⟨⟨_, rfl, rfl, ?mulFrame, mulD_answers s⟩, ⟨_, rfl, ?idiv⟩, ⟨_, rfl, ?fdiv⟩⟩
  case mulFrame => exact onlyRead_of_restAs rfl (onlyRead_refl s)
  case idiv =>
    obtain hzero | hpos := Nat.eq_zero_or_pos s.ix.toNat
    · rw [integerDivide_by_zero hzero, if_pos hzero]
      exact ⟨rfl, notDivided_onlyRead _ _ s, rfl, rfl⟩
    · have hfits : (mk16 s.a s.b).toNat / s.ix.toNat < 65536 :=
        (Nat.div_le_self _ _).trans_lt (mk16 s.a s.b).isLt
      rw [integerDivide_of_pos hpos, if_neg hpos.ne']
      exact ⟨rfl, divided_onlyRead _ _ s, divided_holdsDivision hpos hfits⟩
  case fdiv =>
    obtain hle | hlt := le_or_gt s.ix.toNat (mk16 s.a s.b).toNat
    · rw [fractionalDivide_of_le hle, if_pos hle]
      exact ⟨rfl, notDivided_onlyRead _ _ s, rfl, rfl⟩
    · have hpos : 0 < s.ix.toNat := Nat.zero_lt_of_lt hlt
      have hfits : (mk16 s.a s.b).toNat * 65536 / s.ix.toNat < 65536 :=
        (Nat.div_lt_iff_lt_mul hpos).2 (by omega)
      rw [fractionalDivide_of_lt hlt, if_neg hlt.not_ge]
      exact ⟨rfl, divided_onlyRead _ _ s, divided_holdsDivision hpos hfits⟩

end Sys2Proof.Proofs
end

section
/-! SUPPORT.
Logic of a byte: an accumulator combined with an operand, and the byte at an address with a mask, bit by bit.
Settles O31 and O32.
-/

namespace Sys2Proof.Proofs

open Sys2Proof.Machine Sys2Proof.Laws

/-! ### Accumulators -/

/-- What each logic operation answers: its value, and N and Z of the value with V cleared (42 R310). -/
theorem logic8_answer (v : Byte) (c : Ccr) : (v, c.logic8 v) = (v, valueFlags8 c v) := by
  rw [logic8_eq]

/-- Settles O31: three operations on each accumulator, and the conjunction of each with its value discarded. -/
theorem logicAccumulator : Obligations.LogicAccumulator := by
  rintro s src m rfl
  refine ⟨?results, ⟨_, rfl, accTest_answers (logic8_answer (s.a &&& _) s.ccr)⟩,
    ⟨_, rfl, accTest_answers (logic8_answer (s.b &&& _) s.ccr)⟩⟩
  case results =>
    intro i r v h
    simp only [List.mem_cons, Prod.mk.injEq, List.not_mem_nil, or_false] at h
    obtain ⟨rfl, rfl, rfl⟩ | ⟨rfl, rfl, rfl⟩ | ⟨rfl, rfl, rfl⟩ | ⟨rfl, rfl, rfl⟩ | ⟨rfl, rfl, rfl⟩ |
      ⟨rfl, rfl, rfl⟩ := h
    case inl => exact ⟨_, rfl, accOp_answers (logic8_answer (s.a &&& _) s.ccr)⟩
    case inr.inl => exact ⟨_, rfl, accOp_answers (logic8_answer (s.b &&& _) s.ccr)⟩
    case inr.inr.inl => exact ⟨_, rfl, accOp_answers (logic8_answer (s.a ^^^ _) s.ccr)⟩
    case inr.inr.inr.inl => exact ⟨_, rfl, accOp_answers (logic8_answer (s.b ^^^ _) s.ccr)⟩
    case inr.inr.inr.inr.inl => exact ⟨_, rfl, accOp_answers (logic8_answer (s.a ||| _) s.ccr)⟩
    case inr.inr.inr.inr.inr => exact ⟨_, rfl, accOp_answers (logic8_answer (s.b ||| _) s.ccr)⟩

/-! ### Bits of a byte in memory -/

/-- Settles O32: the byte read is written back with the mask added, or with the mask taken out. -/
theorem bitSetClear : Obligations.BitSetClear := by
  rintro s dst mm m rfl
  refine ⟨⟨_, rfl, ?bset⟩, ⟨_, rfl, ?bclr⟩⟩
  case bset =>
    obtain ⟨hregs, hmem, hccr⟩ := modifyByte_answers
      (f := fun m c => (m ||| mm, c.logic8 (m ||| mm))) (dst := dst) (logic8_answer _ s.ccr)
    exact ⟨hregs, _, hmem, hccr, fun k _ => bit_or _ mm k⟩
  case bclr =>
    obtain ⟨hregs, hmem, hccr⟩ := modifyByte_answers
      (f := fun m c => (m &&& ~~~mm, c.logic8 (m &&& ~~~mm))) (dst := dst) (logic8_answer _ s.ccr)
    exact ⟨hregs, _, hmem, hccr, fun k hk => bit_and_not hk _ mm⟩

end Sys2Proof.Proofs
end

section
/-! SUPPORT.
Shifts and rotates by one place, said as arithmetic on the number a byte or a word stands for. Settles O33 and O34.
-/

namespace Sys2Proof.Proofs

open Sys2Proof.Machine Sys2Proof.Laws

/-! ### One place to the left or to the right -/

theorem toNat_shiftLeft_one {w : Nat} (x : BitVec w) : (x <<< 1).toNat = 2 * x.toNat % 2 ^ w := by
  rw [BitVec.toNat_shiftLeft, Nat.shiftLeft_eq, pow_one, Nat.mul_comm]

theorem toNat_ushiftRight_one {w : Nat} (x : BitVec w) : (x >>> 1).toNat = x.toNat / 2 := by
  rw [BitVec.toNat_ushiftRight, Nat.shiftRight_one]

/-- The bit that a shift to the right moves out. -/
theorem getLsbD_zero_eq_decide {w : Nat} (x : BitVec w) : x.getLsbD 0 = decide (x.toNat % 2 = 1) :=
  Nat.testBit_zero x.toNat

/-- The sign bit stays, so that a byte from 128 on keeps its 128 (43 R330). -/
theorem toNat_sshiftRight_one (m : Byte) :
    (m.sshiftRight 1).toNat = m.toNat / 2 + m.toNat / 128 * 128 := by
  rw [BitVec.toNat_sshiftRight, msb8, Nat.shiftRight_one, Nat.shiftRight_one]
  simp only [decide_eq_true_eq]
  split <;> omega

theorem toNat_bitAt {j : Nat} (hj : j < 8) (v : Bool) : (bitAt j v).toNat = 2 ^ j * v.toNat := by
  have hfits : 2 ^ j < 2 ^ 8 := Nat.pow_lt_pow_right (by decide) hj
  cases v
  case false => rfl
  case true =>
    have hone : (bitAt j true).toNat = 1 <<< j % 2 ^ 8 := BitVec.toNat_shiftLeft
    rw [hone, Nat.one_shiftLeft, Nat.mod_eq_of_lt hfits]
    exact (Nat.mul_one _).symm

/-- A bit that enters where there is none is added: how the old C comes into a rotate (43 R330). -/
theorem toNat_or_bitAt {n : Byte} {j : Nat} (hj : j < 8) (hn : bit n j = false) (v : Bool) :
    (n ||| bitAt j v).toNat = n.toNat + 2 ^ j * v.toNat := by
  have hdisjoint : n &&& bitAt j v = 0#8 := (BitVec.and_comm _ _).trans (bitAt_and_eq_zero v hn)
  rw [← BitVec.add_eq_or_of_and_eq_zero n _ hdisjoint, BitVec.toNat_add_of_and_eq_zero hdisjoint,
    toNat_bitAt hj]

/-- A rotate to the left has no carry out of its sum: twice the byte leaves the place of bit 0 free. -/
theorem toNat_rotateLeft (m : Byte) (v : Bool) :
    ((m <<< 1) ||| bitAt 0 v).toNat = (2 * m.toNat + v.toNat) % 256 := by
  have hfree : bit (m <<< 1) 0 = false := by simp [bit]
  have hv : v.toNat ≤ 1 := v.toNat_le
  rw [toNat_or_bitAt (by decide) hfree, toNat_shiftLeft_one]
  omega

theorem toNat_rotateRight (m : Byte) (v : Bool) :
    ((m >>> 1) ||| bitAt 7 v).toNat = m.toNat / 2 + 128 * v.toNat := by
  have hfree : bit (m >>> 1) 7 = false := by simp [bit]
  rw [toNat_or_bitAt (by decide) hfree, toNat_ushiftRight_one]
  rfl

/-! ### The functions as arithmetic -/

/-- What every shift of a byte answers, its result being `n` (43 R330). -/
theorem shifted8_eq {r : Byte} {n : Nat} (hr : r.toNat = n) (out : Bool) (c : Ccr) :
    shifted8 r out c = (BitVec.ofNat 8 n, shiftFlags8 c n out) := by
  subst hr
  rw [shifted8, Ccr.nz8, msb8, beq_toNat, BitVec.ofNat_toNat, BitVec.setWidth_eq]
  rfl

/-- What every shift of a word answers, its result being `n` (43 R330). -/
theorem shifted16_eq {r : Word} {n : Nat} (hr : r.toNat = n) (out : Bool) (c : Ccr) :
    shifted16 r out c = (BitVec.ofNat 16 n, shiftFlags16 c n out) := by
  subst hr
  rw [shifted16, Ccr.nz16, msb16, beq_toNat, BitVec.ofNat_toNat, BitVec.setWidth_eq]
  rfl

theorem asl8_eq (m : Byte) (c : Ccr) : asl8 m c =
    (BitVec.ofNat 8 (2 * m.toNat % 256),
      shiftFlags8 c (2 * m.toNat % 256) (decide (128 ≤ m.toNat))) := by
  rw [asl8, msb8]
  exact shifted8_eq (toNat_shiftLeft_one m) _ c

theorem asr8_eq (m : Byte) (c : Ccr) : asr8 m c =
    (BitVec.ofNat 8 (m.toNat / 2 + m.toNat / 128 * 128),
      shiftFlags8 c (m.toNat / 2 + m.toNat / 128 * 128) (decide (m.toNat % 2 = 1))) := by
  rw [asr8, bit, getLsbD_zero_eq_decide]
  exact shifted8_eq (toNat_sshiftRight_one m) _ c

theorem lsr8_eq (m : Byte) (c : Ccr) : lsr8 m c =
    (BitVec.ofNat 8 (m.toNat / 2), shiftFlags8 c (m.toNat / 2) (decide (m.toNat % 2 = 1))) := by
  rw [lsr8, bit, getLsbD_zero_eq_decide]
  exact shifted8_eq (toNat_ushiftRight_one m) _ c

theorem rol8_eq (m : Byte) (c : Ccr) : rol8 m c =
    (BitVec.ofNat 8 ((2 * m.toNat + c.c.toNat) % 256),
      shiftFlags8 c ((2 * m.toNat + c.c.toNat) % 256) (decide (128 ≤ m.toNat))) := by
  rw [rol8, msb8]
  exact shifted8_eq (toNat_rotateLeft m c.c) _ c

theorem ror8_eq (m : Byte) (c : Ccr) : ror8 m c =
    (BitVec.ofNat 8 (m.toNat / 2 + 128 * c.c.toNat),
      shiftFlags8 c (m.toNat / 2 + 128 * c.c.toNat) (decide (m.toNat % 2 = 1))) := by
  rw [ror8, bit, getLsbD_zero_eq_decide]
  exact shifted8_eq (toNat_rotateRight m c.c) _ c

theorem asl16_eq (d : Word) (c : Ccr) : asl16 d c =
    (BitVec.ofNat 16 (2 * d.toNat % 65536),
      shiftFlags16 c (2 * d.toNat % 65536) (decide (32768 ≤ d.toNat))) := by
  rw [asl16, msb16]
  exact shifted16_eq (toNat_shiftLeft_one d) _ c

theorem lsr16_eq (d : Word) (c : Ccr) : lsr16 d c =
    (BitVec.ofNat 16 (d.toNat / 2), shiftFlags16 c (d.toNat / 2) (decide (d.toNat % 2 = 1))) := by
  rw [lsr16, getLsbD_zero_eq_decide]
  exact shifted16_eq (toNat_ushiftRight_one d) _ c

/-! ### The instructions -/

/-- An operation on D gives it the value and the flags of its function; nothing else changes. -/
theorem wideUnary_becomes (f : Word → Ccr → Word × Ccr) (s : State) :
    becomes s (wideUnary f s) ((regs s).withWide .d (f (Reg16.get s .d) s.ccr).1)
      (f (Reg16.get s .d) s.ccr).2 false := by
  have hrest : restAs s (wideUnary f s) := restAs_reg16Set .d _ _ s
  exact ⟨regs_reg16Set .d _ _ s, reg16Set_ccr _ _ .d, onlyRead_of_restAs hrest (onlyRead_refl s)⟩

theorem wideUnary_answers {f : Word → Ccr → Word × Ccr} {s : State} {v : Word} {c : Ccr}
    (h : f (Reg16.get s .d) s.ccr = (v, c)) :
    becomes s (wideUnary f s) ((regs s).withWide .d v) c false := by
  have hop := wideUnary_becomes f s
  rwa [h] at hop

/-- Settles O33: each operation is one function on the byte, whether it stands in memory, in A or in B. -/
theorem shifts8 : Obligations.Shifts8 := by
  rintro s dst m mem ia ib f out rfl h
  obtain ⟨g, hmem, ha, hb, hg⟩ : ∃ g : Byte → Ccr → Byte × Ccr,
      exec mem s = .next (modifyByte g dst s) ∧ exec ia s = .next (accUnary .a g s) ∧
      exec ib s = .next (accUnary .b g s) ∧
      ∀ x, g x s.ccr = (BitVec.ofNat 8 (f x.toNat), shiftFlags8 s.ccr (f x.toNat) (out x.toNat)) := by
    simp only [List.mem_cons, Prod.mk.injEq, List.not_mem_nil, or_false] at h
    obtain ⟨rfl, rfl, rfl, rfl, rfl⟩ | ⟨rfl, rfl, rfl, rfl, rfl⟩ | ⟨rfl, rfl, rfl, rfl, rfl⟩ |
      ⟨rfl, rfl, rfl, rfl, rfl⟩ | ⟨rfl, rfl, rfl, rfl, rfl⟩ := h
    case inl => exact ⟨asl8, rfl, rfl, rfl, fun x => asl8_eq x s.ccr⟩
    case inr.inl => exact ⟨asr8, rfl, rfl, rfl, fun x => asr8_eq x s.ccr⟩
    case inr.inr.inl => exact ⟨lsr8, rfl, rfl, rfl, fun x => lsr8_eq x s.ccr⟩
    case inr.inr.inr.inl => exact ⟨rol8, rfl, rfl, rfl, fun x => rol8_eq x s.ccr⟩
    case inr.inr.inr.inr => exact ⟨ror8, rfl, rfl, rfl, fun x => ror8_eq x s.ccr⟩
  exact ⟨⟨_, hmem, modifyByte_answers (hg _)⟩, ⟨_, ha, accUnary_answers (hg s.a)⟩,
    ⟨_, hb, accUnary_answers (hg s.b)⟩⟩

/-- Settles O34: the two shifts of D. -/
theorem shifts16 : Obligations.Shifts16 := by
  rintro s d rfl
  exact ⟨⟨_, rfl, wideUnary_answers (asl16_eq (mk16 s.a s.b) s.ccr)⟩,
    ⟨_, rfl, wideUnary_answers (lsr16_eq (mk16 s.a s.b) s.ccr)⟩⟩

end Sys2Proof.Proofs
end

section
/-! SUPPORT.
Relative branches as one rule, the branches on flags as its cases, and the order of two numbers in the flags that a
comparison leaves. Settles O35, O36 and O37.
-/

namespace Sys2Proof.Proofs

open Sys2Proof.Machine Sys2Proof.Laws

/-! ### The relative branch -/

/-- The signed offset added to an address, modulo 2^16 (30 R181, 44 R360). -/
theorem add_sext16_eq_ofInt (w : Word) (rr : Byte) :
    w + sext16 rr = BitVec.ofInt 16 (w.toNat + rr.toInt) := by
  rw [BitVec.ofInt_add, BitVec.ofInt_natCast, BitVec.ofNat_toNat, BitVec.setWidth_eq]
  rfl

/-- Taken or not, a branch writes PC only. -/
theorem branchIf_eq (cond : Bool) (rr : Byte) (s : State) :
    branchIf cond rr s = { s with pc := if cond then s.pc + sext16 rr else s.pc } := by
  cases cond <;> rfl

section

variable {s : State} {rr : Byte} {i : Instr} {cond : Bool}

/-- A branch goes to its target where the condition holds; no flag and nothing else changes (44 R360). -/
theorem branch_becomes (h : exec i s = .next (branchIf cond rr s)) :
    completes i s (fun t => becomes s t
      { regs s with pc := if cond then BitVec.ofInt 16 (s.pc.toNat + rr.toInt) else s.pc }
      s.ccr false) := by
  rw [branchIf_eq, add_sext16_eq_ofInt] at h
  exact ⟨_, h, becomes_of_restAs rfl⟩

/-- Where a branch goes, for a condition known to be `taken`. -/
theorem branch_pc {taken : Bool} (h : exec i s = .next (branchIf cond rr s)) (hcond : cond = taken) :
    completes i s (fun u => u.pc = if taken then s.pc + sext16 rr else s.pc) := by
  rw [branchIf_eq, hcond] at h
  exact ⟨_, h, rfl⟩

/-- A branch with its row of page 1 and its cycles. -/
theorem decoded_branch {op : Byte} {f : Byte → Instr} (hrow : lookup .p1 op = some (.one f))
    (hcycles : cycles (f rr) = 3) (h : exec (f rr) s = .next (branchIf cond rr s)) (rest : List Byte) :
    decode (op :: rr :: rest) = .ok (f rr, rest) ∧ cycles (f rr) = 3 ∧
    completes (f rr) s (fun t => becomes s t
      { regs s with pc := if cond then BitVec.ofInt 16 (s.pc.toNat + rr.toInt) else s.pc }
      s.ccr false) :=
  ⟨decode_relative hrow rest, hcycles, branch_becomes h⟩

end

/-- Settles O35: ten rows of page 1, each a branch on one flag or on none. -/
theorem simpleBranches : Obligations.SimpleBranches := by
  intro s rr op rest i cond h
  simp only [List.mem_cons, Prod.mk.injEq, List.not_mem_nil, or_false, beq_true, beq_false] at h
  obtain ⟨rfl, rfl, rfl⟩ | ⟨rfl, rfl, rfl⟩ | ⟨rfl, rfl, rfl⟩ | ⟨rfl, rfl, rfl⟩ | ⟨rfl, rfl, rfl⟩ |
    ⟨rfl, rfl, rfl⟩ | ⟨rfl, rfl, rfl⟩ | ⟨rfl, rfl, rfl⟩ | ⟨rfl, rfl, rfl⟩ | ⟨rfl, rfl, rfl⟩ := h
  all_goals exact decoded_branch rfl rfl rfl rest

/-- Settles O36: three conditions as the model writes them, and the negation of each. -/
theorem comparisonBranches : Obligations.ComparisonBranches := by
  intro s rr i cond h
  have not_xor (p q : Bool) : (!(p ^^ q)) = (p == q) := Bool.not_not (p == q)
  have bge : exec (.bge rr) s = .next (branchIf (s.ccr.n == s.ccr.v) rr s) := by
    rw [← not_xor]
    rfl
  have bgt : exec (.bgt rr) s = .next (branchIf (!s.ccr.z && s.ccr.n == s.ccr.v) rr s) := by
    rw [← not_xor, ← Bool.not_or]
    rfl
  have bhi : exec (.bhi rr) s = .next (branchIf (!s.ccr.c && !s.ccr.z) rr s) := by
    rw [← Bool.not_or]
    rfl
  simp only [List.mem_cons, Prod.mk.injEq, List.not_mem_nil, or_false] at h
  obtain ⟨rfl, rfl⟩ | ⟨rfl, rfl⟩ | ⟨rfl, rfl⟩ | ⟨rfl, rfl⟩ | ⟨rfl, rfl⟩ | ⟨rfl, rfl⟩ := h
  exacts [branch_becomes bge, branch_becomes rfl, branch_becomes bgt, branch_becomes rfl,
    branch_becomes bhi, branch_becomes rfl]

/-! ### The order of two numbers in the flags -/

/-- The flags tell how `x` compares with `m`: N xor V signed, C unsigned, Z equality (44 R384). -/
def tellsOrder {w : Nat} (c : Ccr) (x m : BitVec w) : Prop :=
  (c.n ^^ c.v) = decide (x.toInt < m.toInt) ∧ c.z = decide (x = m) ∧
    c.c = decide (x.toNat < m.toNat)

/-- N is the sign of the difference unless the signed difference overflows (41 R251). -/
theorem diffFlags8_tellsOrder (c : Ccr) (x m : Byte) : tellsOrder (diffFlags8 c x m false) x m := by
  refine ⟨?signed, ?equal, ?unsigned⟩
  case signed =>
    rw [Bool.eq_iff_iff, Bool.xor_iff_ne, decide_eq_true_iff, ne_eq, Bool.eq_iff_iff]
    simp only [diffFlags8, decide_eq_true_iff]
    simp only [diff8, Bool.toNat_false, BitVec.toInt_eq_toNat_cond]
    omega
  case equal =>
    apply decide_eq_decide.2
    simp only [diff8, Bool.toNat_false, ← BitVec.toNat_inj]
    omega
  case unsigned =>
    apply decide_eq_decide.2
    simp only [diff8, Bool.toNat_false]
    omega

/-- The 16-bit version (41 R253). -/
theorem diffFlags16_tellsOrder (c : Ccr) (x m : Word) : tellsOrder (diffFlags16 c x m) x m := by
  refine ⟨?signed, ?equal, rfl⟩
  case signed =>
    rw [Bool.eq_iff_iff, Bool.xor_iff_ne, decide_eq_true_iff, ne_eq, Bool.eq_iff_iff]
    simp only [diffFlags16, decide_eq_true_iff, BitVec.toInt_eq_toNat_cond]
    omega
  case equal => exact decide_eq_decide.2 BitVec.toNat_inj

section

variable {w : Nat} {c : Ccr} {x m : BitVec w}

theorem signed_le_of_tellsOrder (h : tellsOrder c x m) :
    (c.z || (c.n ^^ c.v)) = decide (x.toInt ≤ m.toInt) := by
  obtain ⟨hlt, heq, _⟩ := h
  rw [hlt, heq, ← Bool.decide_or, decide_eq_decide, ← BitVec.toInt_inj, le_iff_eq_or_lt]

theorem unsigned_le_of_tellsOrder (h : tellsOrder c x m) :
    (c.c || c.z) = decide (x.toNat ≤ m.toNat) := by
  obtain ⟨_, heq, hlt⟩ := h
  rw [hlt, heq, ← Bool.decide_or, decide_eq_decide, ← BitVec.toNat_inj, le_iff_lt_or_eq]

end

/-- The branches that compare, each with how a number compares with another where it is taken (44 R384). -/
def comparing {w : Nat} (rr : Byte) (x m : BitVec w) : List (Instr × Bool) :=
  [(.bgt rr, decide (m.toInt < x.toInt)), (.bge rr, decide (m.toInt ≤ x.toInt)),
   (.beq rr, decide (x = m)), (.bne rr, decide (x ≠ m)),
   (.ble rr, decide (x.toInt ≤ m.toInt)), (.blt rr, decide (x.toInt < m.toInt)),
   (.bhi rr, decide (m.toNat < x.toNat)), (.bcc rr, decide (m.toNat ≤ x.toNat)),
   (.bls rr, decide (x.toNat ≤ m.toNat)), (.bcs rr, decide (x.toNat < m.toNat))]

/-- Where the flags tell the order of two numbers, the branches that compare are taken by it. -/
theorem comparing_branches {w : Nat} {x m : BitVec w} {t : State} {rr : Byte} {i : Instr} {cond : Bool}
    (hccr : tellsOrder t.ccr x m) (h : (i, cond) ∈ comparing rr x m) :
    completes i t (fun u => u.pc = if cond then t.pc + sext16 rr else t.pc) := by
  have le := signed_le_of_tellsOrder hccr
  have leUnsigned := unsigned_le_of_tellsOrder hccr
  obtain ⟨lt, eq, ltUnsigned⟩ := hccr
  have gt : (!(t.ccr.z || (t.ccr.n ^^ t.ccr.v))) = decide (m.toInt < x.toInt) := by
    simp only [le, ← decide_not, not_le]
  have ge : (!(t.ccr.n ^^ t.ccr.v)) = decide (m.toInt ≤ x.toInt) := by
    simp only [lt, ← decide_not, not_lt]
  have ne : (!t.ccr.z) = decide (x ≠ m) := by rw [eq, ← decide_not]
  have gtUnsigned : (!(t.ccr.c || t.ccr.z)) = decide (m.toNat < x.toNat) := by
    simp only [leUnsigned, ← decide_not, not_le]
  have geUnsigned : (!t.ccr.c) = decide (m.toNat ≤ x.toNat) := by
    simp only [ltUnsigned, ← decide_not, not_lt]
  simp only [comparing, List.mem_cons, Prod.mk.injEq, List.not_mem_nil, or_false] at h
  obtain ⟨rfl, rfl⟩ | ⟨rfl, rfl⟩ | ⟨rfl, rfl⟩ | ⟨rfl, rfl⟩ | ⟨rfl, rfl⟩ | ⟨rfl, rfl⟩ | ⟨rfl, rfl⟩ |
    ⟨rfl, rfl⟩ | ⟨rfl, rfl⟩ | ⟨rfl, rfl⟩ := h
  exacts [branch_pc rfl gt, branch_pc rfl ge, branch_pc rfl eq, branch_pc rfl ne, branch_pc rfl le,
    branch_pc rfl lt, branch_pc rfl gtUnsigned, branch_pc rfl geUnsigned, branch_pc rfl leUnsigned,
    branch_pc rfl ltUnsigned]

/-- Settles O37: a comparison leaves the flags of a difference, and those tell the order. -/
theorem branchesAfterCompare : Obligations.BranchesAfterCompare := by
  obtain ⟨compareBytes, compareWords⟩ := comparisons
  refine ⟨?cmpa, ?cpx⟩
  case cmpa =>
    rintro s t src rr m i cond hnext rfl h
    obtain ⟨_, ⟨u, hu, ⟨_, hccr, _⟩, _⟩, _⟩ := compareBytes s src _ rfl
    cases hnext.symm.trans hu
    exact comparing_branches (hccr ▸ diffFlags8_tellsOrder s.ccr s.a _) h
  case cpx =>
    rintro s t src rr m i cond hnext rfl h
    obtain ⟨u, hu, ⟨_, hccr, _⟩, _⟩ := compareWords s src (.cpx src) s.ix (by simp)
    cases hnext.symm.trans hu
    exact comparing_branches (hccr ▸ diffFlags16_tellsOrder s.ccr s.ix _) h

end Sys2Proof.Proofs
end

section
/-! SUPPORT.
A mask against a byte for the bit-test branches; jumps, calls and returns from the rules of the stack. Settles O38,
O39 and O40.
-/

namespace Sys2Proof.Proofs

open Sys2Proof.Machine Sys2Proof.Laws

/-! ### Bit-test branches -/

/-- A byte has no bit of a mask exactly where each bit of the mask is clear in it. -/
theorem and_eq_zero_iff_bits (x mm : Byte) :
    x &&& mm = 0#8 ↔ ∀ k, k < 8 → bit mm k = true → bit x k = false := by
  constructor
  · intro h k _ hmm
    have hk := congrArg (bit · k) h
    simpa only [bit_and, bit_zero, hmm, Bool.and_true] using hk
  · intro h
    apply eq_of_bits
    intro k hk
    cases hmm : bit mm k
    · simp only [bit_and, bit_zero, hmm, Bool.and_false]
    · simp only [bit_and, bit_zero, hmm, h k hk hmm, Bool.and_true]

/-- A bit-test branch writes PC only; else only what reading the byte changes. -/
theorem bitBranch_becomes8 (test : Byte → Bool) (src : MemOp) (rr : Byte) (s : State) :
    becomes8 (.mem src) s (bitBranch test src rr s)
      { regs s with pc := (bitBranch test src rr s).pc } s.ccr := by
  have hregs := regs_of_reads (readByte_reads (ea src s) s)
  have hrest : restAs (readByte (ea src s) s).2 (bitBranch test src rr s) := by
    rw [bitBranch, branchIf_eq]
    rfl
  refine ⟨⟨?regs, bitBranch_ccr test src rr s, onlyRead_of_restAs hrest (readByte_onlyRead _ s)⟩, hrest⟩
  case regs =>
    rw [← hregs, bitBranch, branchIf_eq]
    rfl

theorem bitBranch_pc (test : Byte → Bool) (src : MemOp) (rr : Byte) (s : State) :
    (bitBranch test src rr s).pc =
      if test (readByte (ea src s) s).1 then s.pc + sext16 rr else s.pc := by
  simp only [bitBranch, branchIf_eq, readByte_pc]

/-- Where the test asks for no bit of the mask in `x`, the branch is taken exactly where `x` has none. -/
theorem bitBranch_pc_of_mask {s : State} {src : MemOp} {mm rr x : Byte} {test : Byte → Bool}
    (h : test (readByte (ea src s) s).1 = (x &&& mm == 0)) :
    ((∀ k, k < 8 → bit mm k = true → bit x k = false) →
      (bitBranch test src rr s).pc = s.pc + sext16 rr) ∧
    ((∃ k, k < 8 ∧ bit mm k = true ∧ bit x k = true) → (bitBranch test src rr s).pc = s.pc) := by
  rw [bitBranch_pc, h]
  refine ⟨fun hclear => if_pos ?taken, fun hset => if_neg ?notTaken⟩
  case taken => exact beq_iff_eq.2 ((and_eq_zero_iff_bits x mm).2 hclear)
  case notTaken =>
    obtain ⟨k, hk, hmm, hx⟩ := hset
    intro hzero
    have hclear := (and_eq_zero_iff_bits x mm).1 (beq_iff_eq.1 hzero) k hk hmm
    exact Bool.false_ne_true (hclear.symm.trans hx)

/-- Settles O38: BRSET asks for the mask in the complement of the byte, BRCLR in the byte. -/
theorem bitTestBranches : Obligations.BitTestBranches := by
  rintro s src mm rr m rfl
  refine ⟨⟨_, rfl, bitBranch_becomes8 _ src rr s, ?brset⟩,
    ⟨_, rfl, bitBranch_becomes8 _ src rr s, bitBranch_pc_of_mask rfl⟩⟩
  case brset =>
    obtain ⟨taken, notTaken⟩ := bitBranch_pc_of_mask (s := s) (src := src) (rr := rr) (mm := mm)
      (test := fun m => (~~~m) &&& mm == 0) rfl
    refine ⟨fun hset => taken fun k hk hmm => ?_, fun ⟨k, hk, hmm, hm⟩ => notTaken ⟨k, hk, hmm, ?_⟩⟩
    · rw [bit_not hk, hset k hk hmm, Bool.not_true]
    · rw [bit_not hk, hm, Bool.not_false]

/-! ### Jumps, calls, returns -/

/-- The encoder has no row for a jump of DIR form, so no bytes decode to one (44 R380). -/
theorem decode_ne_jmp_dir (bytes : List Byte) (dd : Byte) (rest : List Byte) :
    decode bytes ≠ .ok (.jmp (.dir dd), rest) := by
  intro h
  obtain ⟨hwf, _⟩ := encodeDecode bytes _ rest h
  cases hwf

/-- Settles O39: three rows, and PC the effective address of each. -/
theorem jump : Obligations.Jump := by
  intro s hh ll ff rest
  have ext : lookup .p1 0x7E = some (.two fun h l => .jmp (.ext (mk16 h l))) := rfl
  have indX : lookup .p1 0x6E = some (.one fun d => .jmp (.indX d)) := rfl
  have indY : lookup .p2 0x6E = some (.one fun d => .jmp (.indY d)) := rfl
  simp only [← add_zext16_eq_ofNat]
  exact ⟨fun bytes dd => decode_ne_jmp_dir bytes dd rest,
    ⟨decode_of_lookup ext (hh :: ll :: rest), rfl, ⟨_, rfl, becomes_of_restAs rfl⟩⟩,
    ⟨decode_of_lookup indX (ff :: rest), rfl, ⟨_, rfl, becomes_of_restAs rfl⟩⟩,
    ⟨decode_of_lookup indY (ff :: rest), rfl, ⟨_, rfl, becomes_of_restAs rfl⟩⟩⟩

/-- A call pushes the return address and goes to its target. -/
theorem callTo_pushes (target : Word) (s : State) :
    (callTo target s).ccr = s.ccr ∧ pushed16At s.sp s.pc s (callTo target s) ∧
      regs (callTo target s) = { regs s with sp := s.sp - 2, pc := target } := by
  have hregs := congrArg (fun g : Regs => { g with pc := target }) (regs_push16 s.pc s)
  refine ⟨push16_ccr s.pc s, ?pushed, hregs⟩
  case pushed =>
    rw [callTo, push16_eq]
    exact pushed16At_of_rest rfl

/-- Settles O40: BSR and JSR are calls, RTS a pull of a word into PC. -/
theorem callsReturns : Obligations.CallsReturns := by
  intro s rr dst
  rw [← add_sext16_eq_ofInt]
  refine ⟨⟨_, rfl, callTo_pushes _ s⟩, ⟨_, rfl, callTo_pushes _ s⟩, ?rts⟩
  case rts =>
    have hregs := congrArg (fun g : Regs => { g with pc := (pull16 s).1 }) (regs_pull16 s)
    exact ⟨_, rfl, becomes_of_rest (u := (pull16 s).2) rfl (pull16_onlyRead s) hregs (pull16_ccr s),
      fun _ _ => pull16_of_peek⟩

end Sys2Proof.Proofs
end

section
/-! SUPPORT.
Instructions on one condition code, and what masks the sources of interrupts. Settles O41 and O42.
-/

namespace Sys2Proof.Proofs

open Sys2Proof.Machine Sys2Proof.Laws

/-- An inherent row of page 1 whose two cycles write condition codes only. -/
theorem decoded_flag_instruction {s : State} {op : Byte} {i : Instr} {c : Ccr}
    (hrow : lookup .p1 op = some (.zero i)) (hcycles : cycles i = 2)
    (h : exec i s = .next { s with ccr := c }) (rest : List Byte) :
    decode (op :: rest) = .ok (i, rest) ∧ cycles i = 2 ∧
      completes i s (fun t => becomes s t (regs s) c false) :=
  ⟨decode_inherent hrow rest, hcycles, _, h, becomes_of_restAs rfl⟩

/-- Settles O41: five rows of page 1, four of them writing one flag. -/
theorem flagInstructions : Obligations.FlagInstructions := by
  intro s rest op i c h
  simp only [List.mem_cons, Prod.mk.injEq, List.not_mem_nil, or_false] at h
  obtain ⟨rfl, rfl, rfl⟩ | ⟨rfl, rfl, rfl⟩ | ⟨rfl, rfl, rfl⟩ | ⟨rfl, rfl, rfl⟩ | ⟨rfl, rfl, rfl⟩ := h
  all_goals exact decoded_flag_instruction rfl rfl rfl rest

/-- I, or the inhibition of one boundary, masks every source but XIRQ (60 R436). -/
theorem recognise_ne_source_of_masked {s : State} (h : s.ccr.i = true ∨ s.inhibit = true) (src : Source) :
    recognise s ≠ some (.source src) := by
  have hmasked : (!s.ccr.i && !s.inhibit) = false := by
    obtain h | h := h
    · rw [h, Bool.not_true, Bool.false_and]
    · rw [h, Bool.not_true, Bool.and_false]
  unfold recognise
  rw [hmasked]
  split <;> simp

/-- The boundary keeps what masks the sources. -/
theorem recognise_boundary_ne_source {s : State} (h : s.ccr.i = true ∨ s.inhibit = true)
    (src : Source) : recognise (boundary s) ≠ some (.source src) := by
  rw [← boundary_ccr, ← boundary_inhibit] at h
  exact recognise_ne_source_of_masked h src

/-- Settles O42: CLI leaves the inhibition set, SEI leaves I set. -/
theorem interruptMaskInstructions : Obligations.InterruptMaskInstructions := by
  intro s
  exact ⟨⟨_, rfl, becomes_of_restAs rfl, recognise_boundary_ne_source (.inr rfl)⟩,
    ⟨_, rfl, becomes_of_restAs rfl, recognise_boundary_ne_source (.inl rfl)⟩⟩

end Sys2Proof.Proofs
end

section
/-! SUPPORT.
The software interrupt, the wait, the stop and the trap of TEST from the rules of exceptions. Settles O43 and O46.
-/

namespace Sys2Proof.Proofs

open Sys2Proof.Machine Sys2Proof.Laws

theorem swiVector_clear : clearOfRegisters swiVector := by
  unfold clearOfRegisters
  decide

/-- An entry that leaves X alone sets I only. -/
theorem enter_ccr_keepsX (w : Word) (s : State) : (enter w false s).ccr = { s.ccr with i := true } := by
  rw [enter_ccr, Bool.or_false]

/-- Settles O43: SWI is an entry, its vector read $4000 lower in a special mode. -/
theorem softwareInterrupt : Obligations.SoftwareInterrupt := by
  intro s v hv
  have haddr : v = vectorAddr s swiVector := hv
  rw [haddr]
  exact ⟨_, rfl, regs_enter _ _ rfl, enter_ccr_keepsX _ s, enter_framed _ s swiVector_clear,
    fun _ _ => enter_pc_of_peek _ swiVector_clear⟩

/-- Outside the special modes vectors are read where they stand (60 R421). -/
theorem vectorAddr_of_normal {s : State} (h : s.smod = false) (w : Word) : vectorAddr s w = w := by
  simp only [vectorAddr, h, Bool.false_eq_true, if_false]

theorem execStop_of_disabled {s : State} (h : s.ccr.s = true) : exec .stop s = .next s :=
  congrArg Host.Outcome.next (if_pos h)

theorem execStop_of_enabled {s : State} (h : s.ccr.s = false) : exec .stop s =
    .next { s with run := .stopped, clockFail := s.clockFail || s.monitorOn } :=
  congrArg Host.Outcome.next (if_neg (Bool.eq_false_iff.1 h))

theorem execTest_of_special {s : State} (h : s.smod = true) :
    exec .test s = .next { s with run := .testing } :=
  congrArg Host.Outcome.next (if_pos h)

theorem execTest_of_normal {s : State} (h : s.smod = false) :
    exec .test s = .next (illegalTrap (s.pc - 1) s) :=
  congrArg Host.Outcome.next (if_neg (Bool.eq_false_iff.1 h))

/-- Stacking the registers lowers SP and writes no register. -/
theorem regs_stackRegisters (s : State) : regs (stackRegisters s) = { regs s with sp := s.sp - 9 } := by
  simp [regs]

/-- Settles O46: WAI is the frame without an entry, STOP by S, TEST by the mode. -/
theorem waitStopTest : Obligations.WaitStopTest := by
  intro s
  refine ⟨⟨_, rfl, ?waiRegs, stackRegisters_ccr s, ?waiFrame⟩,
    fun hs => ⟨_, execStop_of_disabled hs, becomes_of_restAs rfl⟩, fun hs => ?stop,
    fun hm => ⟨_, execTest_of_special hm, becomes_of_restAs rfl⟩, fun hm => ?trap⟩
  case waiRegs =>
    exact congrArg (fun g : Regs => { g with run := .waiting }) (regs_stackRegisters s)
  case waiFrame =>
    exact framed_of_onlyRead (stackRegisters_framed s) (onlyRead_of_restAs rfl (onlyRead_refl _))
  case stop =>
    exact ⟨_, execStop_of_enabled hs, rfl, rfl, fun _ _ hr => ⟨hr, rfl⟩, ⟨rfl, rfl⟩, rfl, rfl, rfl, rfl,
      rfl, rfl, rfl, (Bool.or_assoc _ _ _).symm⟩
  case trap =>
    have haddr := vectorAddr_of_normal (s := { s with pc := s.pc - 1 }) hm illegalVector
    refine ⟨_, execTest_of_normal hm, regs_enter (u := { s with pc := s.pc - 1 }) _ _ rfl,
      enter_ccr_keepsX _ _, enter_framed false _ illegalVector_clear, fun h l hreg hv hv' hh hl => ?_⟩
    apply enter_pc_of_peek (s := { s with pc := s.pc - 1 }) false illegalVector_clear hreg
    all_goals rwa [haddr]

end Sys2Proof.Proofs
end

section
/-! SUPPORT.
Pulling a frame as rules: where SP stands, what the bytes above it answer, and that nothing is written. Settles O44.
-/

namespace Sys2Proof.Proofs

open Sys2Proof.Machine Sys2Proof.Laws

/-! ### Bytes above SP -/

/-- One of the `n` addresses above SP selects a register. -/
def regAbove (s : State) : Nat → Bool
  | 0 => false
  | n + 1 => regAbove s n || isReg s (s.sp + BitVec.ofNat 16 (n + 1))

/-- The `k`-th address above SP shows the byte `v`, outside the register block. -/
def showsAbove (s : State) (k : Nat) (v : Byte) : Prop :=
  isReg s (s.sp + BitVec.ofNat 16 k) = false ∧ peek s (s.sp + BitVec.ofNat 16 k) = some v

theorem regAbove_eq_false {s : State} {n : Nat}
    (h : ∀ k : Nat, 1 ≤ k → k ≤ n → isReg s (s.sp + BitVec.ofNat 16 k) = false) :
    regAbove s n = false := by
  induction n with
  | zero => rfl
  | succ n ih =>
    rw [regAbove, ih fun k hk hkn => h k hk (Nat.le_succ_of_le hkn), h _ n.succ_pos (Nat.le_refl _),
      Bool.or_false]

/-! ### Several pulls -/

/-- From `s` on `n` bytes have been pulled, with CPU registers written but nothing else. -/
def pulledPast (n : Nat) (s t : State) : Prop :=
  t.sp = s.sp + BitVec.ofNat 16 n ∧ onlyRead s t (regAbove s n)

theorem pulledPast_zero (s : State) : pulledPast 0 s s :=
  ⟨(BitVec.add_zero _).symm, onlyRead_refl s⟩

/-- Nothing written but CPU registers, the map is as before. -/
theorem isReg_of_onlyRead {s t : State} {reg : Bool} (h : onlyRead s t reg) (a : Word) :
    isReg t a = isReg s a := by
  obtain ⟨_, ⟨_, _, _, hsys, _, _, _, _, _, _, _, _, henv, _⟩, _⟩ := h
  exact isReg_congr hsys henv a

section

variable {s t u : State} {n : Nat} {v w : Byte}

/-- The next byte to be pulled is the next one above where the pulls began. -/
theorem pulledPast_sp_succ (h : pulledPast n s t) : t.sp + 1 = s.sp + BitVec.ofNat 16 (n + 1) := by
  obtain ⟨hsp, _⟩ := h
  rw [hsp, BitVec.ofNat_add, BitVec.add_assoc]
  rfl

theorem pulledPast_pull8 (h : pulledPast n s t) : pulledPast (n + 1) s (pull8 t).2 := by
  have hsp := pulledPast_sp_succ h
  obtain ⟨_, hread⟩ := h
  have hpull := pull8_onlyRead t
  rw [hsp, isReg_of_onlyRead hread] at hpull
  exact ⟨(pull8_sp t).trans hsp, onlyRead_trans hread hpull⟩

theorem pulledPast_pull16 (h : pulledPast n s t) : pulledPast (n + 2) s (pull16 t).2 :=
  pulledPast_pull8 (pulledPast_pull8 h)

/-- A register but SP may be written between two pulls. -/
theorem pulledPast_of_restAs (h : pulledPast n s t) (hrest : restAs t u) (hsp : u.sp = t.sp) :
    pulledPast n s u :=
  ⟨hsp.trans h.1, onlyRead_of_restAs hrest h.2⟩

/-- A pull answers what the byte above SP showed when the pulls began. -/
theorem pull8_of_pulledPast (h : pulledPast n s t) (hv : showsAbove s (n + 1) v) :
    (pull8 t).1 = v := by
  obtain ⟨hreg, hpeek⟩ := hv
  have hsp := pulledPast_sp_succ h
  obtain ⟨_, hmem, _⟩ := h
  obtain ⟨_, hsame⟩ := hmem _ id hreg
  exact pull8_of_peek (by rw [hsp, hsame, hpeek])

theorem pull16_of_pulledPast (h : pulledPast n s t) (hv : showsAbove s (n + 1) v)
    (hw : showsAbove s (n + 2) w) : (pull16 t).1 = mk16 v w := by
  simp only [pull16, pull8_of_pulledPast h hv, pull8_of_pulledPast (pulledPast_pull8 h) hw]

end

/-! ### The frame pulled -/

/-- CCR pulled, X only downwards (45 R407). -/
def pullCcr (s : State) : State := { (pull8 s).2 with ccr := (pull8 s).2.ccr.load (pull8 s).1 }

/-- An accumulator pulled. -/
def pullAcc (r : Acc) (s : State) : State := r.set (pull8 s).1 (pull8 s).2

/-- A 16-bit register pulled. -/
def pullReg16 (r : Reg16) (s : State) : State := r.set (pull16 s).1 (pull16 s).2

/-- PC pulled. -/
def pullPc (s : State) : State := { (pull16 s).2 with pc := (pull16 s).1 }

/-- The registers are pulled in the order of the frame, from its lowest address up (45 R407, 60 R445). -/
theorem unstackRegisters_eq (s : State) : unstackRegisters s =
    pullPc (pullReg16 .y (pullReg16 .x (pullAcc .a (pullAcc .b (pullCcr s))))) := rfl

theorem reg16Set_sp_of_ne {r : Reg16} (hr : r ≠ .sp) (v : Word) (s : State) : (r.set v s).sp = s.sp := by
  cases r with
  | d | x | y => rfl
  | sp => exact absurd rfl hr

section

variable {s t : State} {n : Nat}

theorem pulledPast_pullCcr (h : pulledPast n s t) : pulledPast (n + 1) s (pullCcr t) :=
  pulledPast_of_restAs (pulledPast_pull8 h) rfl rfl

theorem pulledPast_pullAcc (r : Acc) (h : pulledPast n s t) : pulledPast (n + 1) s (pullAcc r t) :=
  pulledPast_of_restAs (pulledPast_pull8 h) (restAs_accSet r _ _ _) (by cases r <;> rfl)

theorem pulledPast_pullReg16 {r : Reg16} (hr : r ≠ .sp) (h : pulledPast n s t) :
    pulledPast (n + 2) s (pullReg16 r t) :=
  pulledPast_of_restAs (pulledPast_pull16 h) (restAs_reg16Set r _ _ _) (reg16Set_sp_of_ne hr _ _)

theorem pulledPast_pullPc (h : pulledPast n s t) : pulledPast (n + 2) s (pullPc t) :=
  pulledPast_of_restAs (pulledPast_pull16 h) rfl rfl

end

theorem pulledPast_unstackRegisters (s : State) : pulledPast 9 s (unstackRegisters s) :=
  pulledPast_pullPc <| pulledPast_pullReg16 (r := .y) (by decide) <|
    pulledPast_pullReg16 (r := .x) (by decide) <| pulledPast_pullAcc .a <| pulledPast_pullAcc .b <|
      pulledPast_pullCcr <| pulledPast_zero s

theorem regs_pullCcr (s : State) : regs (pullCcr s) = { regs s with sp := s.sp + 1 } := regs_pull8 s

theorem regs_pullAcc (r : Acc) (s : State) :
    regs (pullAcc r s) = ({ regs s with sp := s.sp + 1 } : Regs).withAcc r (pull8 s).1 :=
  (regs_accSet r _ _ _).trans (congrArg (·.withAcc r (pull8 s).1) (regs_pull8 s))

theorem regs_pullReg16 (r : Reg16) (s : State) :
    regs (pullReg16 r s) = ({ regs s with sp := s.sp + 2 } : Regs).withWide r (pull16 s).1 :=
  (regs_reg16Set r _ _ _).trans (congrArg (·.withWide r (pull16 s).1) (regs_pull16 s))

theorem regs_pullPc (s : State) :
    regs (pullPc s) = { regs s with sp := s.sp + 2, pc := (pull16 s).1 } :=
  congrArg (fun g : Regs => { g with pc := (pull16 s).1 }) (regs_pull16 s)

/-- Pulling a frame keeps the run state and the inhibition. -/
theorem unstackRegisters_keeps_run (s : State) :
    (unstackRegisters s).run = s.run ∧ (unstackRegisters s).inhibit = s.inhibit := by
  have hregs := congrArg regs (unstackRegisters_eq s)
  simp only [regs_pullPc, regs_pullReg16, regs_pullAcc, regs_pullCcr] at hregs
  exact ⟨congrArg Regs.run hregs, congrArg Regs.inhibit hregs⟩

/-- The bytes shown above SP are the ones that the registers take (45 R407). -/
theorem unstackRegisters_of_shown {s : State} {c b a xh xl yh yl ph pl : Byte}
    (hc : showsAbove s 1 c) (hb : showsAbove s 2 b) (ha : showsAbove s 3 a)
    (hxh : showsAbove s 4 xh) (hxl : showsAbove s 5 xl) (hyh : showsAbove s 6 yh)
    (hyl : showsAbove s 7 yl) (hph : showsAbove s 8 ph) (hpl : showsAbove s 9 pl) :
    (unstackRegisters s).ccr = s.ccr.load c ∧ (unstackRegisters s).b = b ∧
      (unstackRegisters s).a = a ∧ (unstackRegisters s).ix = mk16 xh xl ∧
      (unstackRegisters s).iy = mk16 yh yl ∧ (unstackRegisters s).pc = mk16 ph pl := by
  have pastCcr := pulledPast_pullCcr (pulledPast_zero s)
  have pastB := pulledPast_pullAcc .b pastCcr
  have pastA := pulledPast_pullAcc .a pastB
  have pastX := pulledPast_pullReg16 (r := .x) (by decide) pastA
  have pastY := pulledPast_pullReg16 (r := .y) (by decide) pastX
  have hregs := regs_pullPc (pullReg16 .y (pullReg16 .x (pullAcc .a (pullAcc .b (pullCcr s)))))
  rw [← unstackRegisters_eq, regs_pullReg16, regs_pullReg16, regs_pullAcc, regs_pullAcc,
    pull8_of_pulledPast pastCcr hb, pull8_of_pulledPast pastB ha, pull16_of_pulledPast pastA hxh hxl,
    pull16_of_pulledPast pastX hyh hyl, pull16_of_pulledPast pastY hph hpl] at hregs
  refine ⟨?ccr, congrArg Regs.b hregs, congrArg Regs.a hregs, congrArg Regs.ix hregs,
    congrArg Regs.iy hregs, congrArg Regs.pc hregs⟩
  case ccr => rw [unstackRegisters_ccr, pull8_of_pulledPast (pulledPast_zero s) hc]

/-- Settles O44: nine pulls write nothing but registers, which take the bytes shown above SP. -/
theorem returnFromInterrupt : Obligations.ReturnFromInterrupt := by
  intro s
  obtain ⟨hsp, hmem, hdev, hee, hserial⟩ := pulledPast_unstackRegisters s
  obtain ⟨hrun, hinhibit⟩ := unstackRegisters_keeps_run s
  refine ⟨_, rfl, hsp, hrun, hinhibit, hmem, hdev, hee, xOnlyCleared .rti s _ rfl, ?frame⟩
  case frame =>
    intro c b a xh xl yh yl ph pl shown
    obtain ⟨hccr, hregs⟩ := unstackRegisters_of_shown (shown 1 (by decide) (by decide))
      (shown 2 (by decide) (by decide)) (shown 3 (by decide) (by decide))
      (shown 4 (by decide) (by decide)) (shown 5 (by decide) (by decide))
      (shown 6 (by decide) (by decide)) (shown 7 (by decide) (by decide))
      (shown 8 (by decide) (by decide)) (shown 9 (by decide) (by decide))
    have hnoReg := regAbove_eq_false fun k hk hkn => (shown k hk hkn).1
    exact ⟨hserial hnoReg, hccr ▸ toByte_load s.ccr c, hregs⟩

end Sys2Proof.Proofs
end

section
/-! SUPPORT.
Interrupt entries, and the ways a wait and a stop go on and end. Settles O49.
-/

namespace Sys2Proof.Proofs

open Sys2Proof.Machine Sys2Proof.Laws

/-! ### Requests taken -/

theorem request_vector_clear (r : Request) : clearOfRegisters r.vector := by
  unfold clearOfRegisters
  cases r with
  | xirq => decide
  | source src => cases src <;> decide

/-- X is set by an XIRQ entry only (60 R436). -/
theorem setsX_eq_decide (r : Request) : r.setsX = decide (r = .xirq) := by
  cases r <;> rfl

/-- Taking IRQ clears its edge latch, taking another request changes nothing (60 R431). -/
theorem acknowledge_eq (r : Request) (s : State) :
    acknowledge r s = { s with irqEdge := s.irqEdge && decide (r ≠ .source .irq) } := by
  by_cases hr : r = .source .irq
  · subst hr
    simp [acknowledge]
  · have hkept : acknowledge r s = s := by
      unfold acknowledge
      split
      · exact absurd rfl hr
      · rfl
    simp [hkept, hr]

/-- An entry from a running machine takes the request through its vector (60 R431, R440). -/
theorem takeInterrupt_interrupted {r : Request} {w : Word} {s : State} (hrun : s.run = .running)
    (hinhibit : s.inhibit = false) (hw : w = vectorAddr s r.vector) :
    interrupted r w s (takeInterrupt r s) := by
  have hclear := request_vector_clear r
  have hregs := regs_enter r.vector r.setsX (rfl : regs s = regs s)
  rw [takeInterrupt, acknowledge_eq, hw]
  refine ⟨?regs, ?ccr, ?edge, ?frame, fun _ _ => enter_pc_of_peek _ hclear⟩
  case regs => simpa only [regs, hrun, hinhibit] using hregs
  case ccr => exact (enter_ccr _ _ s).trans (by rw [setsX_eq_decide])
  case edge => simp only [enter_irqEdge]
  case frame =>
    have hedge : s.irqEdge = (enter r.vector r.setsX s).irqEdge := (enter_irqEdge _ _ s).symm
    rw [hedge]
    exact enter_framed r.setsX s hclear

/-! ### The wait -/

/-- The end of a wait loads PC and sets the masks; the frame stands already (45 R411). -/
theorem endWait_frame (r : Request) (s : State) :
    regs (endWait r s) = { regs s with pc := (endWait r s).pc, run := .running } ∧
      (endWait r s).ccr = { s.ccr with i := true, x := s.ccr.x || decide (r = .xirq) } ∧
      (endWait r s).mem = s.mem ∧
      (endWait r s).irqEdge = (s.irqEdge && decide (r ≠ .source .irq)) := by
  rw [endWait, acknowledge_eq, vectorTo_eq, ← setsX_eq_decide]
  refine ⟨?regs, ?ccr, ?mem, ?edge⟩
  case regs => simp [regs, masked]
  case ccr => simp [masked]
  case mem => simp [masked]
  case edge => simp [masked]

theorem endWait_pc_of_peek {r : Request} {s : State} {h l : Byte}
    (hh : peek s (vectorAddr s r.vector) = some h) (hl : peek s (vectorAddr s r.vector + 1) = some l) :
    (endWait r s).pc = mk16 h l := by
  rw [endWait, acknowledge_eq]
  exact vectorTo_pc_of_peek _ (request_vector_clear r) hh hl

/-- Passing cycles keep memory. -/
theorem spend_mem {n : Nat} (hn : 2 ≤ n) (s : State) : (spend n s).mem = s.mem := by
  obtain ⟨_, _, _, _, _, _, _, _, _, h⟩ := spend_changes n hn s
  rw [h]

section

variable {s : State}

/-- Where the cycles bring no reset due, what follows them is done. -/
theorem afterCycles_of_none {n : Nat} {k : State → Result} (h : resetCause (spend n s) = none) :
    afterCycles n s k = k (spend n s) :=
  unlessReset_of_none h

/-- A waiting machine with no reset due looks at the requests (45 R411). -/
theorem step_of_waiting (hc : resetCause (boundary s) = none) (hr : (boundary s).run = .waiting) :
    step s = stepWaiting (boundary s) := by
  simp only [step, unlessReset_of_none hc, hr]

theorem stepWaiting_of_none (hn : recognise s = none) :
    stepWaiting s = .next (advance 1 { s with inhibit := false }) := by
  simp only [stepWaiting, hn]

/-- A request that is recognised ends the wait after two cycles (45 R411). -/
theorem stepWaiting_of_request {r : Request} (hn : recognise s = some r)
    (hreset : resetCause (spend 2 { s with inhibit := false }) = none) :
    stepWaiting s = .next (endWait r (spend 2 { s with inhibit := false })) := by
  simp only [stepWaiting, hn]
  exact afterCycles_of_none hreset

/-- Passing cycles keep registers, flags and memory. -/
theorem advance_frame (n : Nat) (s : State) :
    regs (advance n s) = regs s ∧ (advance n s).ccr = s.ccr ∧ (advance n s).mem = s.mem ∧
      (advance n s).cycles = s.cycles + n := by
  obtain ⟨_, _, _, _, _, _, _, _, h⟩ := advance_changes n s
  rw [h]
  exact ⟨rfl, rfl, rfl, rfl⟩

/-! ### The stop -/

theorem stopExit_of_stay (hx : s.env.pins.xirq = true) (hi : s.ccr.i = true ∨ irqRequested s = false) :
    stopExit s = .stay := by
  obtain hi | hi := hi <;> simp [stopExit, hx, hi]

theorem stopExit_of_resume (hx : s.env.pins.xirq = false) (hm : s.ccr.x = true) :
    stopExit s = .resume := by
  simp [stopExit, hx, hm]

theorem stopExit_of_xirq (hx : s.env.pins.xirq = false) (hm : s.ccr.x = false) :
    stopExit s = .interrupt .xirq := by
  simp [stopExit, hx, hm]

theorem stopExit_of_irq (hx : s.env.pins.xirq = true) (hi : s.ccr.i = false)
    (hr : irqRequested s = true) : stopExit s = .interrupt (.source .irq) := by
  simp [stopExit, hx, hi, hr]

/-- A stopped machine with no reset due does what the pins ask. -/
theorem step_of_stopped (hc : resetCause (boundary s) = none) (hr : (boundary s).run = .stopped) :
    step s = stepStopped (boundary s) := by
  simp only [step, unlessReset_of_none hc, hr]

/-- A request that ends a stop is taken after the cycles of an entry (45 R413). -/
theorem stepStopped_of_interrupt {r : Request} (he : stopExit s = .interrupt r)
    (hreset : resetCause (spend 14 { restart s with inhibit := false }) = none) :
    stepStopped s = .next (takeInterrupt r (spend 14 { restart s with inhibit := false })) := by
  simp only [stepStopped, he]
  exact afterCycles_of_none hreset

end

/-- Settles O49: a wait by what is recognised, a stop by what the pins ask. -/
theorem waitAndStopEnd : Obligations.WaitAndStopEnd := by
  refine ⟨fun s hc hrun => ⟨fun hn => ?waits, ?waitEnds⟩, ?stop⟩
  case waits =>
    exact ⟨_, (step_of_waiting hc hrun).trans (stepWaiting_of_none hn),
      advance_frame 1 { boundary s with inhibit := false }⟩
  case waitEnds =>
    rintro r _ hn rfl hreset
    obtain ⟨hregs, hccr⟩ := spend_frame (n := 2) (by decide) { boundary s with inhibit := false }
    have hmem := spend_mem (n := 2) (by decide) { boundary s with inhibit := false }
    obtain ⟨hregs', hccr', hmem', hedge⟩ := endWait_frame r (spend 2 { boundary s with inhibit := false })
    rw [hregs] at hregs'
    rw [hccr] at hccr'
    exact ⟨_, (step_of_waiting hc hrun).trans (stepWaiting_of_request hn hreset), hregs', hccr',
      hmem'.trans hmem, hedge, fun _ _ => endWait_pc_of_peek⟩
  case stop =>
    rintro s _ hc hrun rfl
    have hstep := step_of_stopped hc hrun
    refine ⟨fun hx hi => ?stays, fun hx hm => ?resumes, ?ends⟩
    case stays => rw [hstep, stepStopped, stopExit_of_stay hx hi]
    case resumes =>
      rw [hstep, stepStopped, stopExit_of_resume hx hm]
      rfl
    case ends =>
      rintro r v w t hpins rfl hreset hw
      obtain ⟨hexit, hv⟩ : stopExit (boundary s) = .interrupt r ∧ v = r.vector := by
        obtain ⟨hx, hm, rfl, rfl⟩ | ⟨hx, hi, hirq, rfl, rfl⟩ := hpins
        · exact ⟨stopExit_of_xirq hx hm, rfl⟩
        · exact ⟨stopExit_of_irq hx hi hirq, rfl⟩
      obtain ⟨hregs, hccr⟩ := spend_frame (n := 14) (by decide)
        { restart (boundary s) with inhibit := false }
      have hmem := spend_mem (n := 14) (by decide) { restart (boundary s) with inhibit := false }
      exact ⟨_, hstep.trans (stepStopped_of_interrupt hexit hreset), hregs, hccr, hmem,
        takeInterrupt_interrupted (congrArg Regs.run hregs) (congrArg Regs.inhibit hregs) (hv ▸ hw)⟩

end Sys2Proof.Proofs
end

section
/-! SUPPORT.
The outcomes of a step: an instruction always answers a next state, and so does every way a step goes on. Settles O7.
-/

namespace Sys2Proof.Proofs

open Sys2Proof.Machine Sys2Proof.Laws

/-- The outcome is a next state: neither a fault nor a refusal. -/
def answersNext (r : Result) : Prop := ∃ t, r = .next t

theorem answersNext_next (s : State) : answersNext (.next s) := ⟨s, rfl⟩

/-- Every arm of `exec` is a next state, in every state: none asks for more (60 R420; log 34). -/
theorem answersNext_exec (i : Instr) (s : State) : answersNext (exec i s) := by
  cases i <;> exact answersNext_next _

theorem answersNext_unlessReset {s : State} {k : State → Result} (hk : answersNext (k s)) :
    answersNext (unlessReset s k) := by
  unfold unlessReset
  split
  · exact answersNext_next _
  · exact hk

theorem answersNext_afterCycles {n : Nat} {s : State} {k : State → Result}
    (hk : ∀ u, answersNext (k u)) : answersNext (afterCycles n s k) :=
  answersNext_unlessReset (hk _)

/-- Bytes that are an instruction run it, the others are a trap (30 R183). -/
theorem answersNext_runInstruction (s : State) : answersNext (runInstruction s) := by
  unfold runInstruction
  simp only
  split
  · exact answersNext_afterCycles (answersNext_exec _)
  · exact answersNext_afterCycles fun _ => answersNext_next _

theorem answersNext_stepRunning (s : State) : answersNext (stepRunning s) := by
  unfold stepRunning
  split
  · exact answersNext_afterCycles fun _ => answersNext_next _
  · exact answersNext_runInstruction _

theorem answersNext_stepWaiting (s : State) : answersNext (stepWaiting s) := by
  unfold stepWaiting
  split
  · exact answersNext_afterCycles fun _ => answersNext_next _
  · exact answersNext_next _

theorem answersNext_stepStopped (s : State) : answersNext (stepStopped s) := by
  unfold stepStopped
  split
  · exact answersNext_next _
  · exact answersNext_next _
  · exact answersNext_afterCycles fun _ => answersNext_next _

/-- Settles O7: a reset, and each way a step goes on without one, answers a next state. -/
theorem stepNeverStops : Obligations.StepNeverStops := by
  intro s
  refine answersNext_unlessReset ?_
  split
  · exact answersNext_stepRunning _
  · exact answersNext_stepWaiting _
  · exact answersNext_stepStopped _
  · exact answersNext_next _

end Sys2Proof.Proofs
end

section
/-! SUPPORT.
An interrupt recognised by a running machine, and RTI after an entry: the frame that an entry leaves is the one
that RTI pulls. Settles O45 and O48.
-/

namespace Sys2Proof.Proofs

open Sys2Proof.Machine Sys2Proof.Laws

/-! ### The entry from a running machine -/

/-- A running machine that recognises a request takes it after the cycles of an entry (60 R436). -/
theorem stepRunning_of_request {s : State} {r : Request} (hn : recognise s = some r) : stepRunning s =
    afterCycles 14 { s with inhibit := false } fun t => .next (takeInterrupt r t) := by
  simp only [stepRunning, hn]
  rfl

/-- A running machine with no reset due looks at the requests. -/
theorem step_of_runs {s : State} (hc : resetCause (boundary s) = none) (hr : (boundary s).run = .running) :
    step s = stepRunning (boundary s) := by
  simp only [step, unlessReset_of_none hc, hr]

/-- Settles O48: the step is the entry, and the cycles before it keep registers, flags and memory. -/
theorem stepTakesInterrupt : Obligations.StepTakesInterrupt := by
  rintro s _ r w hc hrun hn rfl hreset hw
  obtain ⟨hregs, hccr⟩ := spend_frame (n := 14) (by decide) { boundary s with inhibit := false }
  have hmem := spend_mem (n := 14) (by decide) { boundary s with inhibit := false }
  have hstep := (step_of_runs hc hrun).trans (stepRunning_of_request hn)
  exact ⟨_, hstep.trans (afterCycles_of_none hreset), hregs, hccr, hmem,
    takeInterrupt_interrupted ((congrArg Regs.run hregs).trans hrun) (congrArg Regs.inhibit hregs) hw⟩

/-! ### The return from an entry -/

/-- Loading PC from any vector, one in the register block too, keeps every other byte of memory. -/
theorem vectorTo_onlyRead_any (w : Word) (x : Bool) (s : State) :
    ∃ reg, onlyRead s (vectorTo w x s) reg :=
  ⟨_, onlyRead_of_restAs (vectorTo_eq w x s ▸ rfl) (read16_onlyRead (vectorAddr s w) (masked x s))⟩

/-- After an entry whose frame is in memory that keeps what is written, the `k`-th byte above SP is the
`k`-th of the frame from its lowest address up (60 R441). -/
theorem enter_showsAbove {s : State} (w : Word) (x : Bool) (h : ∀ a, inFrame s.sp a → isCell s a = true)
    {k : Nat} (hk : 1 ≤ k) (hk' : k ≤ 9) {v : Byte} (hv : (frameBytes s)[9 - k]? = some v) :
    showsAbove (enter w x s) k v := by
  obtain ⟨hframe, hbytes⟩ := stackRegisters_framed s
  obtain ⟨_, ⟨_, _, _, hsys, _, _, _, _, _, _, _, _, henv, _⟩, _⟩ := hframe fun a ha => isCell_notReg (h a ha)
  obtain ⟨_, hread⟩ := vectorTo_onlyRead_any w x (stackRegisters s)
  have haddr : (enter w x s).sp + BitVec.ofNat 16 k = s.sp - BitVec.ofNat 16 (9 - k) := by
    rw [enter_sp]
    bv_omega
  have hstacked : isReg (stackRegisters s) (s.sp - BitVec.ofNat 16 (9 - k)) = false := by
    rw [isReg_congr hsys henv]
    exact isCell_notReg (h _ ⟨9 - k, by omega, rfl⟩)
  obtain ⟨hmem, _⟩ := hread
  obtain ⟨hreg, hpeek⟩ := hmem _ id hstacked
  unfold showsAbove
  rw [haddr]
  exact ⟨hreg, hpeek.trans ((hbytes h _ (by omega)).trans hv)⟩

/-- The condition codes come back from their byte while X is not lower than it was (10 R27). -/
theorem load_toByte {c d : Ccr} (hx : d.x = true → c.x = true) : c.load d.toByte = d := by
  have hload : c.load d.toByte = { d with x := c.x && d.x } := by
    unfold Ccr.load
    rw [ofByte_toByte, bit_toByte (by decide)]
    simp
  rw [hload]
  cases d with
  | mk _ x => cases x <;> simp_all

/-- Settles O45: the nine bytes that the entry stacked are the nine that RTI pulls. -/
theorem returnUndoesEntry : Obligations.ReturnUndoesEntry := by
  intro s vector setX hcells
  have shown {k : Nat} (hk : 1 ≤ k) (hk' : k ≤ 9) {v : Byte} (hv : (frameBytes s)[9 - k]? = some v) :=
    enter_showsAbove vector setX hcells hk hk' hv
  obtain ⟨hccr, hb, ha, hix, hiy, hpc⟩ := unstackRegisters_of_shown
    (shown (k := 1) (by decide) (by decide) rfl) (shown (k := 2) (by decide) (by decide) rfl)
    (shown (k := 3) (by decide) (by decide) rfl) (shown (k := 4) (by decide) (by decide) rfl)
    (shown (k := 5) (by decide) (by decide) rfl) (shown (k := 6) (by decide) (by decide) rfl)
    (shown (k := 7) (by decide) (by decide) rfl) (shown (k := 8) (by decide) (by decide) rfl)
    (shown (k := 9) (by decide) (by decide) rfl)
  obtain ⟨hsp, _⟩ := pulledPast_unstackRegisters (enter vector setX s)
  obtain ⟨hrun, hinhibit⟩ := unstackRegisters_keeps_run (enter vector setX s)
  rw [mk16_hi8_lo8] at hix hiy hpc
  rw [enter_run] at hrun
  rw [enter_inhibit] at hinhibit
  have hsp' : (unstackRegisters (enter vector setX s)).sp = s.sp := by
    rw [hsp, enter_sp]
    bv_omega
  refine ⟨_, rfl, ?regs, ?ccr⟩
  case regs => simp only [regs, ha, hb, hix, hiy, hsp', hpc, hrun, hinhibit]
  case ccr =>
    rw [hccr]
    exact load_toByte fun hx => by simp [hx]

end Sys2Proof.Proofs
end

section
/-! SUPPORT.
Resets: which is due, when it is taken, what it leaves, and where PC comes from. Settles O51.
-/

namespace Sys2Proof.Proofs

open Sys2Proof.Machine Sys2Proof.Laws

/-! ### What a reset leaves -/

theorem resetCause_vector_clear (c : ResetCause) : clearOfRegisters c.vector := by
  unfold clearOfRegisters
  cases c <;> decide

/-- The state a reset has settled before it fetches its vector. -/
def resetSettled (c : ResetCause) (s : State) : State := { resetState c s with owed := 0 }

/-- The registers, arrays and mode bits of the settled state that the spec names (70 R520, R523, R524). -/
theorem resetSettled_frame (c : ResetCause) (s : State) :
    (resetSettled c s).ccr.s = true ∧ (resetSettled c s).ccr.x = true ∧ (resetSettled c s).ccr.i = true ∧
      (resetSettled c s).run = .running ∧ (resetSettled c s).mem.eeprom = s.mem.eeprom ∧
      (resetSettled c s).mem.ext = s.mem.ext ∧
      (resetSettled c s).sys.hprio = (resetSettled c s).mode.hprio :=
  ⟨rfl, rfl, rfl, rfl, rfl, rfl, rfl⟩

/-- A reset is settled and then loads PC from its vector (70 R520). -/
theorem takeReset_eq (c : ResetCause) (s : State) : takeReset c s =
    { (read16 (vectorAddr (resetSettled c s) c.vector) (resetSettled c s)).2 with
      pc := (read16 (vectorAddr (resetSettled c s) c.vector) (resetSettled c s)).1
      owed := (read16 (vectorAddr (resetSettled c s) c.vector) (resetSettled c s)).2.owed +
        Config.vectorCycles } := rfl

/-- The vector fetch writes no register but PC, no array and no mode bit. -/
theorem takeReset_keeps_settled (c : ResetCause) (s : State) :
    (takeReset c s).ccr = (resetSettled c s).ccr ∧ (takeReset c s).run = (resetSettled c s).run ∧
      (takeReset c s).mem = (resetSettled c s).mem ∧ (takeReset c s).mode = (resetSettled c s).mode ∧
      (takeReset c s).sys = (resetSettled c s).sys := by
  simp [takeReset_eq]

/-- Outside the register block memory shows after the vector fetch what it showed before it. -/
theorem peek_takeReset {c : ResetCause} {s : State} {a : Word}
    (ha : isReg (resetSettled c s) a = false) : peek (takeReset c s) a = peek (resetSettled c s) a := by
  obtain ⟨hmem, _⟩ := read16_onlyRead (vectorAddr (resetSettled c s) c.vector) (resetSettled c s)
  obtain ⟨_, hpeek⟩ := hmem a id ha
  exact hpeek

/-- PC is loaded from the two bytes that memory shows at the vector of the cause (70 R521). -/
theorem takeReset_pc_of_peek {c : ResetCause} {s : State} {h l : Byte}
    (hh : peek (takeReset c s) (vectorAddr (takeReset c s) c.vector) = some h)
    (hl : peek (takeReset c s) (vectorAddr (takeReset c s) c.vector + 1) = some l) :
    (takeReset c s).pc = mk16 h l := by
  obtain ⟨_, _, _, _, hsys⟩ := takeReset_keeps_settled c s
  have haddr : vectorAddr (takeReset c s) c.vector = vectorAddr (resetSettled c s) c.vector := by
    unfold vectorAddr State.smod
    rw [hsys]
  obtain ⟨hr, hr'⟩ := isReg_vectorAddr (resetSettled c s) (resetSettled c s) (resetCause_vector_clear c)
  rw [haddr, peek_takeReset hr] at hh
  rw [haddr, peek_takeReset hr'] at hl
  exact read16_of_peek_outside hr hh hl

/-- What a reset makes of a state (70 R520 to R524). -/
theorem takeReset_wasReset (c : ResetCause) (s : State) : wasReset c s (takeReset c s) := by
  obtain ⟨hs, hx, hi, hrunning, heeprom, hext, hhprio⟩ := resetSettled_frame c s
  obtain ⟨hccr, hrun, hmem, hmode, hsys⟩ := takeReset_keeps_settled c s
  unfold wasReset
  rw [hccr, hrun, hmem, hmode, hsys]
  refine ⟨hs, hx, hi, hrunning, heeprom, hext, ?pinMode, ?oldMode, hhprio, ?pc⟩
  case pinMode =>
    rintro rfl
    rfl
  case oldMode =>
    intro hc
    cases c with
    | pin => exact absurd rfl hc
    | clockMonitor | cop => rfl
  case pc =>
    rintro v w h l hv hw hh hl
    have hvector : v = c.vector := by
      simp only [List.mem_cons, Prod.mk.injEq, List.not_mem_nil, or_false] at hv
      obtain ⟨rfl, rfl⟩ | ⟨rfl, rfl⟩ | ⟨rfl, rfl⟩ := hv <;> rfl
    subst hvector
    have haddr : w = vectorAddr (takeReset c s) c.vector := hw
    subst haddr
    exact takeReset_pc_of_peek hh hl

/-! ### When a reset is taken -/

theorem unlessReset_of_some {s : State} {c : ResetCause} {k : State → Result} (h : resetCause s = some c) :
    unlessReset s k = .next (takeReset c s) := by
  simp only [unlessReset, h]

/-- A reset that falls due in the cycles takes the place of what follows them (60 R423, 70 R520). -/
theorem afterCycles_of_some {n : Nat} {s : State} {c : ResetCause} {k : State → Result}
    (h : resetCause (spend n s) = some c) : afterCycles n s k = .next (takeReset c (spend n s)) :=
  unlessReset_of_some h

section

variable {s : State} {c : ResetCause}

/-- A reset takes the place of the instruction in whose cycles it falls due. -/
theorem runInstruction_resets {i : Instr} {rest : List Byte} (hd : decode (fetch s).1 = .ok (i, rest))
    (h : resetCause (spend (cycles i) (fetch s).2) = some c) :
    runInstruction s = .next (takeReset c (spend (cycles i) (fetch s).2)) := by
  simp only [runInstruction, hd]
  exact afterCycles_of_some h

/-- The same of an illegal opcode trap. -/
theorem runInstruction_resets_in_trap {e : DecodeError} (hd : decode (fetch s).1 = .error e)
    (h : resetCause (spend 14 (fetch s).2) = some c) :
    runInstruction s = .next (takeReset c (spend 14 (fetch s).2)) := by
  simp only [runInstruction, hd]
  exact afterCycles_of_some h

/-- The same of an interrupt entry. -/
theorem stepRunning_resets {r : Request} (hn : recognise s = some r)
    (h : resetCause (spend 14 { s with inhibit := false }) = some c) :
    stepRunning s = .next (takeReset c (spend 14 { s with inhibit := false })) := by
  rw [stepRunning_of_request hn]
  exact afterCycles_of_some h

/-- The same of the end of a wait. -/
theorem stepWaiting_resets {r : Request} (hn : recognise s = some r)
    (h : resetCause (spend 2 { s with inhibit := false }) = some c) :
    stepWaiting s = .next (takeReset c (spend 2 { s with inhibit := false })) := by
  simp only [stepWaiting, hn]
  exact afterCycles_of_some h

/-- The same of the end of a stop by an interrupt. -/
theorem stepStopped_resets {r : Request} (he : stopExit s = .interrupt r)
    (h : resetCause (spend 14 { restart s with inhibit := false }) = some c) :
    stepStopped s = .next (takeReset c (spend 14 { restart s with inhibit := false })) := by
  simp only [stepStopped, he]
  exact afterCycles_of_some h

end

/-- The pins end a stop by an interrupt where XIRQ is low with X = 0, or IRQ requests with I = 0 (45 R413). -/
theorem stopExit_interrupts {s : State} (h : (s.env.pins.xirq = false ∧ s.ccr.x = false) ∨
    (s.env.pins.xirq = true ∧ s.ccr.i = false ∧ irqRequested s = true)) :
    ∃ r, stopExit s = .interrupt r := by
  obtain ⟨hx, hm⟩ | ⟨hx, hi, hr⟩ := h
  · exact ⟨_, stopExit_of_xirq hx hm⟩
  · exact ⟨_, stopExit_of_irq hx hi hr⟩

/-- Settles O51: the causes in their order, what a reset leaves, and the places of a step where one is taken. -/
theorem resetAtOnce : Obligations.ResetAtOnce := by
  refine ⟨fun s => ⟨?pin, ?monitor, ?cop, ?none, rfl⟩, takeReset_wasReset,
    fun s c hc => unlessReset_of_some hc, ?inCycles⟩
  case pin => intro hpin; simp [resetCause, hpin]
  case monitor => intro hpin hclock; simp [resetCause, hpin, hclock]
  case cop => intro hpin hclock hcop; simp [resetCause, hpin, hclock, hcop]
  case none => intro hpin hclock hcop; simp [resetCause, hpin, hclock, hcop]
  case inCycles =>
    rintro s _ t c hc ht rfl hplace
    obtain ⟨hrun, hn, ⟨i, rest, hd, rfl⟩ | ⟨e, hd, rfl⟩⟩ | ⟨hrun, ⟨r, hn⟩, rfl⟩ | ⟨hrun, ⟨r, hn⟩, rfl⟩ |
      ⟨hrun, hpins, rfl⟩ := hplace
    · rw [step_of_running hc hrun hn, runInstruction_resets hd ht]
    · rw [step_of_running hc hrun hn, runInstruction_resets_in_trap hd ht]
    · rw [step_of_runs hc hrun, stepRunning_resets hn ht]
    · rw [step_of_waiting hc hrun, stepWaiting_resets hn ht]
    · obtain ⟨r, he⟩ := stopExit_interrupts (s := boundary s) hpins
      rw [step_of_stopped hc hrun]
      exact stepStopped_resets he ht

end Sys2Proof.Proofs
end

section
/-! SUPPORT.
Recognition: XIRQ before all others, the promoted source before the others, and those by their vectors. Settles O47.
-/

namespace Sys2Proof.Proofs

open Sys2Proof.Machine Sys2Proof.Laws

/-! ### The first request -/

/-- The first element found in an ordered list is that element or before it for every other that would do. -/
theorem find_first_of_pairwise {α : Type} {R : α → α → Prop} {p : α → Bool} {l : List α} {a b : α}
    (hl : l.Pairwise R) (hf : l.find? p = some a) (hb : b ∈ l) (hp : p b = true) : b = a ∨ R a b := by
  obtain ⟨_, before, after, rfl, hbefore⟩ := List.find?_eq_some_iff_append.1 hf
  obtain ⟨_, hafter, _⟩ := List.pairwise_append.1 hl
  rcases List.mem_append.1 hb with hb | hb
  · have hnot := hbefore b hb
    simp [hp] at hnot
  · rcases List.mem_cons.1 hb with rfl | hb
    · exact .inl rfl
    · exact .inr (List.rel_of_pairwise_cons hafter hb)

theorem mem_sourceAll (src : Source) : src ∈ Source.all := by
  cases src <;> decide

/-- The order of the sources is that of their vectors, the highest first (60 R434). -/
theorem sourceAll_by_vector :
    Source.all.Pairwise fun a b => b.vector.toNat ≤ a.vector.toNat := by
  decide

/-- The first request requests, and is the promoted source, or that one does not request and none that does has
a higher vector (60 R433, R434). -/
theorem firstRequest_eq_some {s : State} {src : Source} (h : firstRequest s = some src) :
    requests s src = true ∧ (src = promoted s ∨ (requests s (promoted s) = false ∧
      ∀ other, requests s other = true → other.vector.toNat ≤ src.vector.toNat)) := by
  refine ⟨List.find?_some h, ?_⟩
  unfold firstRequest at h
  cases hp : requests s (promoted s)
  · rw [List.find?_cons_of_neg (by simp [hp])] at h
    refine .inr ⟨rfl, fun other ho => ?_⟩
    obtain rfl | hle := find_first_of_pairwise sourceAll_by_vector h (mem_sourceAll other) ho
    · exact Nat.le_refl _
    · exact hle
  · rw [List.find?_cons_of_pos hp] at h
    exact .inl (Option.some.inj h).symm

theorem firstRequest_eq_none {s : State} (h : firstRequest s = none) (src : Source) :
    requests s src = false :=
  Bool.eq_false_iff.2 (List.find?_eq_none.1 h src (List.mem_cons_of_mem _ (mem_sourceAll src)))

/-! ### Recognition -/

/-- XIRQ is asked for by its pin, and X does not mask it (60 R436). -/
def xirqOpen (s : State) : Bool := !s.ccr.x && !s.env.pins.xirq

/-- The sources are masked neither by I nor by the inhibition of one boundary (45 R409, 60 R436). -/
def sourcesOpen (s : State) : Bool := !s.ccr.i && !s.inhibit

theorem recognise_eq (s : State) : recognise s =
    if xirqOpen s then some .xirq else if sourcesOpen s then (firstRequest s).map .source else none := rfl

theorem recognise_eq_xirq_iff (s : State) : recognise s = some .xirq ↔ xirqOpen s = true := by
  rw [recognise_eq]
  split_ifs with hx hs <;> simp [hx]

theorem recognise_eq_source {s : State} {src : Source} (h : recognise s = some (.source src)) :
    sourcesOpen s = true ∧ firstRequest s = some src := by
  rw [recognise_eq] at h
  split_ifs at h with hx hs
  · cases h
  · simpa [hs] using h

theorem recognise_eq_none {s : State} (h : recognise s = none) (hs : sourcesOpen s = true) :
    firstRequest s = none := by
  rw [recognise_eq, if_pos hs] at h
  split_ifs at h
  simpa using h

/-! ### Vectors, PSEL and what requests -/

/-- The source that PSEL promotes, by the sixteen rows of its table (60 R433). -/
theorem promoted_eq {s : State} {psel : Nat} {src : Source} (hpsel : s.sys.hprio.toNat % 16 = psel)
    (h : (psel, src) ∈ [(0, Source.tof), (1, .paov), (2, .pai), (3, .spi), (4, .sci), (5, .irq), (6, .irq),
      (7, .rti), (8, .ic1), (9, .ic2), (10, .ic3), (11, .oc1), (12, .oc2), (13, .oc3), (14, .oc4),
      (15, .i4o5)]) : promoted s = src := by
  unfold promoted
  rw [hpsel]
  repeat' rcases h with _ | ⟨_, h⟩
  all_goals rfl

/-- The SPI requests by SPIF or MODF, under one mask (60 R430, R485). -/
theorem requests_spi_iff (s : State) : requests s .spi = true ↔
    (bit s.spi.spsr 7 = true ∨ bit s.spi.spsr 4 = true) ∧ bit s.spi.spcr 7 = true := by
  simp only [requests, Bool.and_eq_true, Bool.or_eq_true]

/-- The SCI requests by TDRE, TC, RDRF, OR or IDLE, RDRF and OR under one mask (60 R430, R480). -/
theorem requests_sci_iff (s : State) : requests s .sci = true ↔ ∃ flag mask : Nat,
    (flag, mask) ∈ [(7, 7), (6, 6), (5, 5), (3, 5), (4, 4)] ∧
      bit s.sci.scsr flag = true ∧ bit s.sci.sccr2 mask = true := by
  simp only [requests, Bool.and_eq_true, Bool.or_eq_true, List.mem_cons, Prod.mk.injEq,
    List.not_mem_nil, or_false]
  constructor
  · rintro (((⟨hf, hm⟩ | ⟨hf, hm⟩) | ⟨hf | hf, hm⟩) | ⟨hf, hm⟩)
    · exact ⟨7, 7, by simp, hf, hm⟩
    · exact ⟨6, 6, by simp, hf, hm⟩
    · exact ⟨5, 5, by simp, hf, hm⟩
    · exact ⟨3, 5, by simp, hf, hm⟩
    · exact ⟨4, 4, by simp, hf, hm⟩
  · rintro ⟨_, _, ⟨rfl, rfl⟩ | ⟨rfl, rfl⟩ | ⟨rfl, rfl⟩ | ⟨rfl, rfl⟩ | ⟨rfl, rfl⟩, hf, hm⟩ <;>
      simp [hf, hm]

/-- Settles O47: recognition by the first request, and the tables of vectors, PSEL, flags and masks. -/
theorem interruptPriority : Obligations.InterruptPriority := by
  refine ⟨fun s => ⟨?xirq, ?source, ?none⟩, ?vectors, fun s _ _ hpsel => promoted_eq hpsel, ?flags,
    fun s => ⟨rfl, requests_spi_iff s, requests_sci_iff s⟩⟩
  case xirq => simpa [xirqOpen] using recognise_eq_xirq_iff s
  case source =>
    intro src h
    obtain ⟨hopen, hfirst⟩ := recognise_eq_source h
    obtain ⟨hi, hinhibit⟩ : s.ccr.i = false ∧ s.inhibit = false := by simpa [sourcesOpen] using hopen
    exact ⟨hi, hinhibit, firstRequest_eq_some hfirst⟩
  case none =>
    intro h hi hinhibit
    exact firstRequest_eq_none (recognise_eq_none h (by simp [sourcesOpen, hi, hinhibit]))
  case vectors =>
    intro r v h
    repeat' rcases h with _ | ⟨_, h⟩
    all_goals rfl
  case flags =>
    intro s src flags masks k h
    repeat' rcases h with _ | ⟨_, h⟩
    all_goals rfl

end Sys2Proof.Proofs
end

section
/-! SUPPORT.
The EEPROM protocol: what each command does to a byte of the array and to the CONFIG cells, what the end of a
command is, and what a write latches. Settles O57.
-/

namespace Sys2Proof.Proofs

open Sys2Proof.Machine Sys2Proof.Laws

/-! ### Programming and erasing -/

/-- Erasing makes the unprotected bytes it names $FF and keeps the others (60 R495). -/
theorem get_eraseWhere (p : Nat → Bool) (s : State) (k : Nat) :
    (eraseWhere p s).mem.get .eeprom k =
      if p k = true ∧ s.ee.protects k = false then some 0xFF else s.mem.get .eeprom k := by
  simp [eraseWhere, get_clearWhere, Region.unlisted]

/-- Programming one byte makes ones zeros and keeps the other bytes (60 R495). -/
theorem get_programByte {s : State} {off : Nat} {old : Byte} (v : Byte) (hoff : off < 512)
    (hold : s.mem.get .eeprom off = some old) (k : Nat) :
    (programByte off v s).mem.get .eeprom k =
      if k = off then some (old &&& v) else s.mem.get .eeprom k := by
  simp [programByte, hold, get_put _ _ _ _ _ _ (show off < Region.eeprom.size from hoff)]

/-! ### A command of the array -/

section

variable {s : State} {off : Nat}

/-- A command aimed at a protected byte changes nothing (20 R158). -/
theorem eeCommit_protected (v : Byte) (h : s.ee.protects off = true) : eeCommit (.array off) v s = s := by
  simp only [eeCommit, h, if_true]

/-- A command aimed at an unprotected byte programs it, or erases it, its row or the array (60 R495). -/
theorem eeCommit_array (v : Byte) (h : s.ee.protects off = false) : eeCommit (.array off) v s =
    if bit s.ee.pprog 2 = false then programByte off v s
    else if bit s.ee.pprog 4 = true then eraseWhere (· == off) s
    else if bit s.ee.pprog 3 = true then eraseWhere (fun o => o / 16 == off / 16) s
    else eraseWhere (fun _ => true) s := by
  simp only [eeCommit, h, Bool.false_eq_true, if_false, Bool.not_eq_true']

/-- A command of the array keeps the CONFIG cells. -/
theorem eeCommit_array_sys (v : Byte) (s : State) : (eeCommit (.array off) v s).sys = s.sys := by
  cases h : s.ee.protects off
  · rw [eeCommit_array v h]
    split_ifs <;> rfl
  · rw [eeCommit_protected v h]

/-- What a command of the array leaves in each byte: by its mode where neither the byte aimed at nor the byte
itself is protected, and what it was elsewhere (60 R495, 20 R158). -/
theorem get_eeCommit_array {data old : Byte} (hoff : off < 512)
    (hold : s.mem.get .eeprom off = some old) (k : Nat) :
    (eeCommit (.array off) data s).mem.get .eeprom k =
      if s.ee.protects k || s.ee.protects off then s.mem.get .eeprom k
      else if bit s.ee.pprog 2 = false then
        (if k = off then some (old &&& data) else s.mem.get .eeprom k)
      else if bit s.ee.pprog 4 = true then (if k = off then some 0xFF else s.mem.get .eeprom k)
      else if bit s.ee.pprog 3 = true then
        (if k / 16 = off / 16 then some 0xFF else s.mem.get .eeprom k)
      else some 0xFF := by
  cases haim : s.ee.protects off
  · rw [eeCommit_array data haim]
    cases hk : s.ee.protects k
    case false =>
      rw [Bool.or_false, if_neg Bool.false_ne_true]
      split_ifs
      all_goals simp [get_programByte data hoff hold, get_eraseWhere, *]
    case true =>
      have hne : k ≠ off := by
        rintro rfl
        cases hk.symm.trans haim
      rw [Bool.or_false, if_pos rfl]
      split_ifs
      all_goals simp [get_programByte data hoff hold, get_eraseWhere, hk, hne]
  · rw [eeCommit_protected data haim, Bool.or_true, if_pos rfl]

end

/-! ### A command of CONFIG -/

/-- A command of CONFIG with PTCON = 1 changes nothing; with PTCON = 0 it programs the cells, or erases cells
and array in bulk (10 R78, 60 R496). -/
theorem eeCommit_config (v : Byte) (s : State) : eeCommit .config v s =
    if bit s.ee.bprot 4 = true then s
    else if bit s.ee.pprog 2 = false then setConfigCells (s.sys.configCells &&& v) s
    else if bit s.ee.pprog 4 = true ∨ bit s.ee.pprog 3 = true then s
    else setConfigCells 0xFF (eraseWhere (fun _ => true) s) := by
  simp only [eeCommit, EeCtl.protectsConfig, Bool.not_eq_true', Bool.or_eq_true]

/-- What a command of CONFIG leaves in its cells and in each byte of the array (60 R496). -/
theorem eeCommit_config_effect (v : Byte) (s : State) :
    (eeCommit .config v s).sys = { s.sys with configCells := (eeCommit .config v s).sys.configCells } ∧
      (eeCommit .config v s).sys.configCells =
        (if bit s.ee.bprot 4 = true then s.sys.configCells
         else if bit s.ee.pprog 2 = false then s.sys.configCells &&& v
         else if bit s.ee.pprog 4 = true ∨ bit s.ee.pprog 3 = true then s.sys.configCells
         else 0xFF) ∧
      ∀ k, (eeCommit .config v s).mem.get .eeprom k =
        if bit s.ee.bprot 4 = false ∧ bit s.ee.pprog 2 = true ∧ bit s.ee.pprog 4 = false ∧
          bit s.ee.pprog 3 = false ∧ s.ee.protects k = false then some 0xFF
        else s.mem.get .eeprom k := by
  rw [eeCommit_config]
  split_ifs with hptcon herase hmode
  · simp [hptcon]
  · simp [setConfigCells, herase]
  · obtain hmode | hmode := hmode <;> simp [hmode]
  · refine ⟨rfl, rfl, fun k => (get_eraseWhere _ s k).trans ?_⟩
    simp_all

/-! ### The write of PPROG -/

/-- A command changes neither PPROG nor the latches nor the protection. -/
theorem eeCommit_ee (g : EeTarget) (v : Byte) (s : State) : (eeCommit g v s).ee = s.ee := by
  cases g with
  | array off =>
    cases h : s.ee.protects off
    · rw [eeCommit_array v h]
      split_ifs <;> rfl
    · rw [eeCommit_protected v h]
  | config =>
    rw [eeCommit_config]
    split_ifs <;> rfl

theorem write_pprog {s : State} {a : Word} (v : Byte) (h : resolve s a = .reg 0x3B) :
    writeByte a v s = writePprog v s :=
  writeByte_of_reg v h

theorem pprogValue_eq (s : State) (v : Byte) :
    pprogValue s.ee.pprog v = v &&& (if s.eelat then 0x1F else 0x1E) := by
  unfold pprogValue State.eelat
  split <;> rfl

/-- EELAT is taken as it is written. -/
theorem bit_pprogValue_eelat (old v : Byte) : bit (pprogValue old v) 1 = bit v 1 := by
  unfold pprogValue
  split <;> simp

/-- PPROG takes the bits written, EEPGM only where EELAT was 1; the latches empty where EELAT is cleared
(60 R495). -/
theorem writePprog_ee (v : Byte) (s : State) : (writePprog v s).ee = { s.ee with
    pprog := v &&& (if s.eelat then 0x1F else 0x1E)
    latch := if bit v 1 then s.ee.latch else none } := by
  rw [← pprogValue_eq, ← bit_pprogValue_eelat s.ee.pprog v]
  unfold writePprog
  simp only
  split
  · split_ifs <;> simp only [eeCommit_ee]
  · rfl

/-- The write that clears EEPGM ends the command that is latched. -/
theorem writePprog_ends {s : State} {g : EeTarget} {data v : Byte} (hpgm : bit s.ee.pprog 0 = true)
    (hlatch : s.ee.latch = some (g, data)) (hv : bit (pprogValue s.ee.pprog v) 0 = false) :
    writePprog v s = { eeCommit g data s with ee := (writePprog v s).ee } := by
  unfold writePprog
  simp only [hlatch, hpgm, hv, Bool.not_false, Bool.and_true, if_true]

/-- A write of PPROG that ends no command changes PPROG and the latches only. -/
theorem writePprog_idle {s : State} {v : Byte} (h : bit s.ee.pprog 0 = false ∨ s.ee.latch = none ∨
    bit (writePprog v s).ee.pprog 0 = true) : writePprog v s = { s with ee := (writePprog v s).ee } := by
  have hnew : (writePprog v s).ee.pprog = pprogValue s.ee.pprog v := rfl
  rw [hnew] at h
  unfold writePprog
  simp only
  split
  next g data hlatch =>
    have hidle : (bit s.ee.pprog 0 && !bit (pprogValue s.ee.pprog v) 0) = false := by
      rcases h with h | h | h
      · rw [h, Bool.false_and]
      · cases h.symm.trans hlatch
      · rw [h, Bool.not_true, Bool.and_false]
    simp only [hidle, Bool.false_eq_true, if_false]
  next => rfl

/-! ### Latching -/

theorem latchWrite_of_latched {s : State} (g : EeTarget) (v : Byte) (h : s.eelat = true) :
    latchWrite g v s = { s with ee := { s.ee with latch := some (g, v) } } :=
  if_pos h

/-- A write of CONFIG while EELAT = 1 is latched, and in a special mode reaches the register too (60 R496). -/
theorem writeConfig_latched {s : State} (v : Byte) (h : s.eelat = true) :
    writeConfig v s = { s with
      ee := { s.ee with latch := some (.config, v) }
      sys := { s.sys with config := if s.smod then v ||| 0x0A else s.sys.config } } := by
  unfold writeConfig
  rw [latchWrite_of_latched _ v h]
  cases hs : s.smod <;> simp_all [State.smod]

/-- The block of a byte is the one whose range holds it (10 R78). -/
theorem protects_eq {e : EeCtl} {k lo hi n : Nat}
    (h : (lo, hi, n) ∈ [(0x000, 0x01F, 0), (0x020, 0x05F, 1), (0x060, 0x0DF, 2), (0x0E0, 0x1FF, 3)])
    (hlo : lo ≤ k) (hhi : k ≤ hi) : e.protects k = bit e.bprot n := by
  have hblock : protectBit k = n := by
    simp only [List.mem_cons, Prod.mk.injEq, List.not_mem_nil, or_false] at h
    unfold protectBit
    split_ifs <;> omega
  rw [EeCtl.protects, hblock]

/-- A write of $00 to PPROG ends the command that is latched and clears PPROG and the latches. -/
theorem write_pprog_zero {s t : State} {a : Word} {g : EeTarget} {data : Byte}
    (hr : resolve s a = .reg 0x3B) (hpgm : bit s.ee.pprog 0 = true)
    (hlatch : s.ee.latch = some (g, data)) (ht : t = writeByte a 0 s) :
    t = { eeCommit g data s with ee := { s.ee with pprog := 0, latch := none } } := by
  have hzero : pprogValue s.ee.pprog 0 = 0 := by simp [pprogValue]
  rw [ht, write_pprog 0 hr, writePprog_ends hpgm hlatch (by rw [hzero]; rfl), writePprog_ee]
  simp

/-- Settles O57: the end of a command of the array and of CONFIG, the blocks, and what a write latches. -/
theorem eepromCommand : Obligations.EepromCommand := by
  refine ⟨?array, fun e k lo hi n h => protects_eq h, ?writes, ?config⟩
  case array =>
    intro s t a off data old hr hpgm hlatch hoff hold ht
    rw [write_pprog_zero hr hpgm hlatch ht]
    exact ⟨rfl, congrArg Sys.configCells (eeCommit_array_sys data s),
      fun k _ => get_eeCommit_array hoff hold k⟩
  case writes =>
    rintro s _ a v rfl
    refine ⟨fun off hr hlat => ?latched, fun hr hlat => ?latchedConfig, fun hr => ?pprog⟩
    case latched => rw [writeByte_of_eeprom v hr, latchWrite_of_latched _ v hlat]
    case latchedConfig => exact (writeByte_of_reg v hr).trans (writeConfig_latched v hlat)
    case pprog =>
      rw [write_pprog v hr]
      exact ⟨writePprog_ee v s, writePprog_idle⟩
  case config =>
    intro s t a data hr hpgm hlatch ht
    obtain ⟨hsys, hcells, hmem⟩ := eeCommit_config_effect data s
    rw [write_pprog_zero hr hpgm hlatch ht]
    exact ⟨rfl, hsys, hcells, fun k _ => hmem k⟩

end Sys2Proof.Proofs
end

section
/-! SUPPORT.
The pins: edges of port A at the captures and at the pulse accumulator, the edge latch of IRQ, the mode fault, and
what a boundary does. Settles O59.
-/

namespace Sys2Proof.Proofs

open Sys2Proof.Machine Sys2Proof.Laws

/-! ### Input captures, pin by pin -/

/-- The pair EDGxB:EDGxA of TCTL2 for pin PA2, PA1, PA0 or PA3, no edge where PA3 is no capture pin, and none of
the other pins (10 R61, R66). -/
def captureSel (t : Timer) : Nat → Nat
  | 0 => t.tctl2.toNat % 4
  | 1 => t.tctl2.toNat / 4 % 4
  | 2 => t.tctl2.toNat / 16 % 4
  | 3 => if bit t.pactl 2 then t.tctl2.toNat / 64 else 0
  | _ => 0

/-- Pin `k` of port A has an edge that captures (60 R473). -/
def captureEdge (old new : Byte) (t : Timer) (k : Nat) : Bool :=
  edgeSelected (captureSel t k) (bit old k) (bit new k)

theorem edgeSelected_mod (n : Nat) (old new : Bool) :
    edgeSelected (n % 4) old new = edgeSelected n old new := by
  have hrising : n % 4 % 2 = n % 2 := by omega
  have hfalling : n % 4 / 2 % 2 = n / 2 % 2 := by omega
  simp only [edgeSelected, hrising, hfalling]

/-- The pair 01 selects rising edges, 10 falling ones, 11 both (10 R61). -/
theorem edgeSelected_eq {sel : Nat} (h : sel < 4) (old new : Bool) : edgeSelected sel old new =
    ((decide (sel = 1 ∨ sel = 3) && !old && new) || (decide (sel = 2 ∨ sel = 3) && old && !new)) := by
  have hrising : sel % 2 = 1 ↔ sel = 1 ∨ sel = 3 := by omega
  have hfalling : sel / 2 % 2 = 1 ↔ sel = 2 ∨ sel = 3 := by omega
  simp only [edgeSelected, hrising, hfalling]

theorem captureSel_lt (t : Timer) (k : Nat) : captureSel t k < 4 := by
  have := t.tctl2.isLt
  unfold captureSel
  split
  case h_4 => split <;> omega
  all_goals omega

theorem captureEdge_of_no_capture_pin {k : Nat} (h : 4 ≤ k) (old new : Byte) (t : Timer) :
    captureEdge old new t k = false := by
  have hsel : captureSel t k = 0 := by
    unfold captureSel
    split
    case h_5 => rfl
    all_goals omega
  simp [captureEdge, hsel, edgeSelected]

/-- What a change of port A captures, each pin by its own edge (60 R473). -/
theorem captures_by_pin (old new : Byte) (t : Timer) : t.captures old new = { t with
    tic1 := if captureEdge old new t 2 then t.tcnt else t.tic1
    tic2 := if captureEdge old new t 1 then t.tcnt else t.tic2
    tic3 := if captureEdge old new t 0 then t.tcnt else t.tic3
    ti4o5 := if captureEdge old new t 3 then t.tcnt else t.ti4o5
    tflg1 := t.tflg1 ||| (if captureEdge old new t 2 then 4 else 0) |||
      (if captureEdge old new t 1 then 2 else 0) ||| (if captureEdge old new t 0 then 1 else 0) |||
      (if captureEdge old new t 3 then 8 else 0) } := by
  refine captures_eq old new t _ _ _ _ (edgeSelected_mod _ _ _) (edgeSelected_mod _ _ _)
    (edgeSelected_mod _ _ _) ?_
  unfold captureEdge captureSel
  cases bit t.pactl 2 <;> simp [edgeSelected]

theorem bit_ite_zero (e : Bool) (m : Byte) (k : Nat) : bit (if e then m else 0) k = (e && bit m k) := by
  cases e
  · exact bit_zero k
  · rfl

/-- Each capture sets the flag that stands at the place of its pin, and no other flag is set (10 R63). -/
theorem bit_captures_tflg1 {k : Nat} (hk : k < 8) (old new : Byte) (t : Timer) :
    bit (t.captures old new).tflg1 k = (bit t.tflg1 k || captureEdge old new t k) := by
  rw [captures_by_pin]
  simp only [bit_or, bit_ite_zero]
  interval_cases k <;> simp [captureEdge_of_no_capture_pin]

/-- A capture sets no flag of a compare. -/
theorem captures_tflg1_compares (old new : Byte) (t : Timer) :
    (t.captures old new).tflg1 &&& 0xF0 = t.tflg1 &&& 0xF0 := by
  apply eq_of_bits
  intro k hk
  rw [bit_and, bit_and, bit_captures_tflg1 hk]
  by_cases h : 4 ≤ k
  · rw [captureEdge_of_no_capture_pin h, Bool.or_false]
  · interval_cases k <;> simp

/-! ### The pulse accumulator -/

/-- PEDGE is the level that PAI takes in the selected edge (60 R477). -/
theorem edgeSelected_pedge (pedge old new : Bool) :
    edgeSelected (if pedge then 1 else 2) old new = (old != pedge && new == pedge) := by
  cases pedge <;> cases old <;> cases new <;> rfl

section

variable {t : Timer} {old new : Bool}

/-- No other change of PAI does anything. -/
theorem paEdge_ignored (h : old = bit t.pactl 4 ∨ new ≠ bit t.pactl 4) : t.paEdge old new = t := by
  have hnot : (old != bit t.pactl 4 && new == bit t.pactl 4) = false := by
    obtain h | h := h <;> simp [h]
  simp only [Timer.paEdge, edgeSelected_pedge, hnot, Bool.false_eq_true, if_false]

/-- The selected edge sets PAIF, and counts in event mode (60 R477). -/
theorem paEdge_selected (hold : old ≠ bit t.pactl 4) (hnew : new = bit t.pactl 4) : t.paEdge old new =
    if bit t.pactl 6 && !bit t.pactl 5 then (t.flag2 0x10).paCount else t.flag2 0x10 := by
  have hsel : (old != bit t.pactl 4 && new == bit t.pactl 4) = true := by simp [hold, hnew]
  simp only [Timer.paEdge, edgeSelected_pedge, hsel, if_true]
  rfl

/-- Whatever the mode, the selected edge sets PAIF (60 R477). -/
theorem paEdge_sets_paif (hold : old ≠ bit t.pactl 4) (hnew : new = bit t.pactl 4) :
    bit (t.paEdge old new).tflg2 4 = true := by
  rw [paEdge_selected hold hnew]
  split
  · rw [bit_paCount, bit_flag2]
    simp
  · rw [bit_flag2]
    simp

/-- In event mode the edge counts, and PAOVF is set at the wrap (60 R477). -/
theorem paEdge_counts (hold : old ≠ bit t.pactl 4) (hnew : new = bit t.pactl 4)
    (hen : bit t.pactl 6 = true) (hmode : bit t.pactl 5 = false) :
    (t.paEdge old new).pacnt = t.pacnt + 1 ∧
      bit (t.paEdge old new).tflg2 5 = (bit t.tflg2 5 || decide (t.pacnt = 0xFF)) := by
  obtain ⟨_, hcount⟩ := paCount_counts (t.flag2 0x10)
  have hedge : t.paEdge old new = (t.flag2 0x10).paCount := by
    rw [paEdge_selected hold hnew, hen, hmode]
    rfl
  have hpacnt : (t.flag2 0x10).pacnt = t.pacnt := rfl
  rw [hedge, bit_paCount, bit_flag2, hpacnt]
  exact ⟨hcount, by simp⟩

/-- Where the accumulator is off or in gated mode the edge does not count. -/
theorem paEdge_does_not_count (hold : old ≠ bit t.pactl 4) (hnew : new = bit t.pactl 4)
    (h : bit t.pactl 6 = false ∨ bit t.pactl 5 = true) :
    (t.paEdge old new).pacnt = t.pacnt ∧ bit (t.paEdge old new).tflg2 5 = bit t.tflg2 5 := by
  have hedge : t.paEdge old new = t.flag2 0x10 := by
    rw [paEdge_selected hold hnew]
    obtain h | h := h <;> simp [h]
  rw [hedge, bit_flag2]
  exact ⟨rfl, by simp⟩

end

/-! ### The change of the pins -/

/-- A falling IRQ sets the edge latch where IRQE = 1, in a stop too (60 R431, 45 R413). -/
theorem pins_irqEdge (p : Pins) (s : State) : (applyEvent (.pins p) s).irqEdge =
    (s.irqEdge || (bit s.sys.option 5 && s.env.pins.irq && !p.irq)) := by
  simp only [applyEvent, setPins, unlessStopped]
  split <;> rfl

/-- A change of the pins changes the timer, the SPI and the edge latch, and else nothing. -/
theorem pins_changes (p : Pins) (s : State) : applyEvent (.pins p) s = { s with
    env := { s.env with pins := p }
    irqEdge := (applyEvent (.pins p) s).irqEdge
    timer := (applyEvent (.pins p) s).timer
    spi := (applyEvent (.pins p) s).spi } := by
  simp only [applyEvent, setPins, unlessStopped]
  split <;> rfl

/-- Unless the clocks are stopped the units see the edges. -/
theorem pins_clocked {s : State} (p : Pins) (h : s.run ≠ .stopped) : applyEvent (.pins p) s =
    pinEdges s.env.pins p { s with
      env := { s.env with pins := p }
      irqEdge := s.irqEdge || (bit s.sys.option 5 && s.env.pins.irq && !p.irq) } :=
  if_neg h

/-- The timer after a change of port A: its captures, then the edge of PAI (60 R473, R477). -/
def portEdges (old new : Byte) (t : Timer) : Timer :=
  (t.captures old new).paEdge (bit old 7) (bit new 7)

theorem pins_timer {s : State} (p : Pins) (h : s.run ≠ .stopped) :
    (applyEvent (.pins p) s).timer = portEdges s.env.pins.pa p.pa s.timer :=
  congrArg State.timer (pins_clocked p h)

/-- A falling SS with PD5 an input is a mode fault of a master; nothing else changes the SPI (60 R485). -/
theorem pins_spi {s : State} (p : Pins) (h : s.run ≠ .stopped) : (applyEvent (.pins p) s).spi =
    if bit s.env.pins.pd 5 && !bit p.pd 5 && !bit s.ports.ddrd 5 then s.spi.modeFault else s.spi :=
  congrArg State.spi (pins_clocked p h)

theorem modeFault_of_master {c : Spi} (h : bit c.spcr 4 = true) : c.modeFault =
    { c with spsr := c.spsr ||| 0x10, spcr := c.spcr &&& 0xAF, left := 0 } :=
  if_pos h

theorem modeFault_of_slave {c : Spi} (h : bit c.spcr 4 = false) : c.modeFault = c :=
  if_neg (Bool.eq_false_iff.1 h)

/-! ### The timer after a change of port A -/

section

variable (old new : Byte) (t : Timer)

/-- The edge of PAI adds to the captures a change of TFLG2 and PACNT. -/
theorem portEdges_captures : portEdges old new t = { t.captures old new with
    tflg2 := (portEdges old new t).tflg2, pacnt := (portEdges old new t).pacnt } :=
  paEdge_changes _ _ _

/-- Edges change the capture registers, the flags and PACNT only. -/
theorem portEdges_changes : portEdges old new t = { t with
    tic1 := (portEdges old new t).tic1, tic2 := (portEdges old new t).tic2
    tic3 := (portEdges old new t).tic3, ti4o5 := (portEdges old new t).ti4o5
    tflg1 := (portEdges old new t).tflg1, tflg2 := (portEdges old new t).tflg2
    pacnt := (portEdges old new t).pacnt } := by
  rw [portEdges_captures, captures_by_pin]

theorem portEdges_tflg1 : (portEdges old new t).tflg1 = (t.captures old new).tflg1 := by
  rw [portEdges_captures]

/-- Each capture register takes TCNT at the edge of its pin and else keeps its value (60 R473). -/
theorem portEdges_capture_registers :
    (portEdges old new t).tic1 = (if captureEdge old new t 2 then t.tcnt else t.tic1) ∧
      (portEdges old new t).tic2 = (if captureEdge old new t 1 then t.tcnt else t.tic2) ∧
      (portEdges old new t).tic3 = (if captureEdge old new t 0 then t.tcnt else t.tic3) ∧
      (portEdges old new t).ti4o5 = (if captureEdge old new t 3 then t.tcnt else t.ti4o5) := by
  rw [portEdges_captures, captures_by_pin]
  exact ⟨rfl, rfl, rfl, rfl⟩

/-- The captures leave the pulse accumulator alone. -/
theorem captures_accumulator : (t.captures old new).pactl = t.pactl ∧
    (t.captures old new).pacnt = t.pacnt ∧ (t.captures old new).tflg2 = t.tflg2 := by
  rw [captures_by_pin]
  exact ⟨rfl, rfl, rfl⟩

end

section

variable {old new : Byte} {t : Timer}

/-- A row of the captures: the pair of TCTL2 for a pin and the register it captures into. -/
theorem portEdges_row {sel k : Nat} {before after : Word}
    (h : (sel, k, before, after) ∈
      [(t.tctl2.toNat / 16 % 4, 2, t.tic1, (portEdges old new t).tic1),
       (t.tctl2.toNat / 4 % 4, 1, t.tic2, (portEdges old new t).tic2),
       (t.tctl2.toNat % 4, 0, t.tic3, (portEdges old new t).tic3),
       (if bit t.pactl 2 then t.tctl2.toNat / 64 else 0, 3, t.ti4o5, (portEdges old new t).ti4o5)]) :
    sel = captureSel t k ∧ k < 8 ∧ after = if captureEdge old new t k then t.tcnt else before := by
  obtain ⟨htic1, htic2, htic3, hti4o5⟩ := portEdges_capture_registers old new t
  simp only [List.mem_cons, Prod.mk.injEq, List.not_mem_nil, or_false] at h
  obtain ⟨rfl, rfl, rfl, rfl⟩ | ⟨rfl, rfl, rfl, rfl⟩ | ⟨rfl, rfl, rfl, rfl⟩ | ⟨rfl, rfl, rfl, rfl⟩ := h
  · exact ⟨rfl, by decide, htic1⟩
  · exact ⟨rfl, by decide, htic2⟩
  · exact ⟨rfl, by decide, htic3⟩
  · exact ⟨rfl, by decide, hti4o5⟩

/-- The selected edge of PA7, by the mode of the pulse accumulator (60 R477). -/
theorem portEdges_selected (hold : bit old 7 ≠ bit t.pactl 4) (hnew : bit new 7 = bit t.pactl 4) :
    bit (portEdges old new t).tflg2 4 = true ∧
      (bit t.pactl 6 = true → bit t.pactl 5 = false → (portEdges old new t).pacnt = t.pacnt + 1 ∧
        bit (portEdges old new t).tflg2 5 = (bit t.tflg2 5 || decide (t.pacnt = 0xFF))) ∧
      (bit t.pactl 6 = false ∨ bit t.pactl 5 = true → (portEdges old new t).pacnt = t.pacnt ∧
        bit (portEdges old new t).tflg2 5 = bit t.tflg2 5) := by
  obtain ⟨hpactl, hpacnt, htflg2⟩ := captures_accumulator old new t
  rw [← hpactl, ← hpacnt, ← htflg2]
  rw [← hpactl] at hold hnew
  exact ⟨paEdge_sets_paif hold hnew, paEdge_counts hold hnew, paEdge_does_not_count hold hnew⟩

/-- No other change of PA7 reaches the pulse accumulator. -/
theorem portEdges_ignored (h : bit old 7 = bit t.pactl 4 ∨ bit new 7 ≠ bit t.pactl 4) :
    (portEdges old new t).pacnt = t.pacnt ∧ (portEdges old new t).tflg2 = t.tflg2 := by
  obtain ⟨hpactl, hpacnt, htflg2⟩ := captures_accumulator old new t
  rw [← hpactl] at h
  rw [portEdges, paEdge_ignored h]
  exact ⟨hpacnt, htflg2⟩

end

/-! ### The boundary -/

theorem nextEvent_of_nil {s : State} (h : s.env.inputs = []) : nextEvent s = s := by
  simp only [nextEvent, h]

theorem nextEvent_of_cons {s : State} {e : Event} {es : List Event} (h : s.env.inputs = e :: es) :
    nextEvent s = applyEvent e { s with env := { s.env with inputs := es } } := by
  simp only [nextEvent, h]

/-- Settles O59: the pins by the units that see them, and the boundary by the event that waits. -/
theorem pinEvents : Obligations.PinEvents := by
  refine ⟨?pins, ?boundary, fun s v ch => ⟨rfl, rfl, rfl⟩⟩
  case boundary =>
    rintro s _ rfl
    exact ⟨nextEvent_of_nil, fun _ _ => nextEvent_of_cons⟩
  case pins =>
    rintro s _ p rfl
    refine ⟨pins_changes p s, ?latched, ?kept, fun hstop => ?stopped, fun hclocked => ?clocked⟩
    case latched =>
      intro hirqe hold hnew
      simp [pins_irqEdge, hirqe, hold, hnew]
    case kept =>
      intro h
      obtain h | h | h := h <;> simp [pins_irqEdge, h]
    case stopped =>
      obtain ⟨htimer, _, hspi⟩ := applyEvent_stopped (e := .pins p) hstop
      exact ⟨htimer, hspi⟩
    case clocked =>
      rw [pins_timer p hclocked, pins_spi p hclocked]
      refine ⟨portEdges_changes _ _ _, ?compares, ?captures, portEdges_selected, portEdges_ignored,
        ?fault, ?noFault⟩
      case compares => rw [portEdges_tflg1, captures_tflg1_compares]
      case captures =>
        intro sel k before after edge hrow hedge
        obtain ⟨rfl, hk, hafter⟩ := portEdges_row hrow
        rw [← edgeSelected_eq (captureSel_lt _ _)] at hedge
        rw [hedge, portEdges_tflg1]
        exact ⟨hafter, bit_captures_tflg1 hk _ _ _⟩
      case fault =>
        intro hold hnew hin hmaster
        simp [hold, hnew, hin, modeFault_of_master hmaster]
      case noFault =>
        intro h
        split
        next hfalls =>
          obtain ⟨⟨hold, hnew⟩, hin⟩ : (bit s.env.pins.pd 5 = true ∧ bit p.pd 5 = false) ∧
              bit s.ports.ddrd 5 = false := by simpa using hfalls
          exact modeFault_of_slave (by simpa [hold, hnew, hin] using h)
        next => rfl

end Sys2Proof.Proofs
end

section
/-! SUPPORT.
The state after reset, and what a reset leaves unit by unit: the bits printed with a value in the registers whose
other bits are open, and those that the mode decides. Settles O9 and O50.
-/

namespace Sys2Proof.Proofs

open Sys2Proof.Machine Sys2Proof.Laws

/-- Settles O9, unit by unit. -/
theorem resetInv : Obligations.ResetInv where
  mem := rfl
  ports := ⟨rfl, rfl⟩
  timer := ⟨rfl, rfl, rfl, rfl, rfl, by decide, by decide⟩
  sci := ⟨rfl, rfl, rfl⟩
  spi := rfl
  adc := ⟨rfl, by decide⟩
  ee := ⟨rfl, rfl, fun _ _ hlatch => by cases hlatch⟩
  sys := ⟨rfl, rfl, rfl, rfl, hprio_rboot .expanded⟩

/-! ### What the mode decides -/

/-- HPRIO as each mode prints it (10 R84). -/
theorem hprio_printed (m : OpMode) : (m, m.hprio) ∈
    [(OpMode.singleChip, 0x06#8), (.expanded, 0x26), (.bootstrap, 0xC6), (.specialTest, 0x66)] := by
  cases m <;> simp [OpMode.hprio]

/-- A reset leaves MDA set in the modes that have the bus (10 R84). -/
theorem bit_hprio_mda (m : OpMode) : bit m.hprio 5 = m.hasBus := by
  cases m <;> rfl

/-- CSCTL after a reset holds no bit but PCSEN (10 R90). -/
theorem csctl_printed (pcsen : Byte) (m : OpMode) : m.csctl pcsen &&& 0xFB = 0 := by
  cases m with
  | singleChip | expanded => simp [OpMode.csctl]
  | bootstrap | specialTest => exact and_and_disjoint pcsen rfl

/-- Where the bus is off the pins after a reset, the latches of ports B, F and C are clear (10 R45 to R47). -/
theorem resetSettled_ports {c : ResetCause} {s : State} (h : (resetSettled c s).mda = false) :
    (resetSettled c s).ports.b = 0 ∧ (resetSettled c s).ports.f = 0 ∧ (resetSettled c s).ports.c = 0 := by
  have hbus : (resetSettled c s).mode.hasBus = false := (bit_hprio_mda _).symm.trans h
  exact ⟨if_neg (Bool.eq_false_iff.1 hbus), rfl, if_neg (Bool.eq_false_iff.1 hbus)⟩

/-! ### What the vector fetch leaves -/

/-- A 16-bit read outside the register block counts free values and stretched cycles only (00 R13, 70 R545). -/
theorem read16_outside_changes {a : Word} {s : State} (hr : isReg s a = false) (hr' : isReg s (a + 1) = false) :
    ∃ draws owed, (read16 a s).2 = { s with draws := draws, owed := owed } := by
  obtain ⟨_, _, _, hserial⟩ := read16_onlyRead a s
  obtain ⟨sci, spi, draws, owed, hread⟩ := read16_reads a s
  rw [hread, hr, hr'] at hserial
  obtain ⟨rfl, rfl⟩ := hserial rfl
  exact ⟨draws, owed, hread⟩

/-- The vector of a reset is outside the register block, so its fetch reaches no unit (20 R146, 70 R520). -/
theorem takeReset_changes (c : ResetCause) (s : State) : ∃ pc draws owed, takeReset c s =
    { resetSettled c s with pc := pc, draws := draws, owed := owed } := by
  obtain ⟨hr, hr'⟩ := isReg_vectorAddr (resetSettled c s) (resetSettled c s) (resetCause_vector_clear c)
  obtain ⟨draws, owed, hread⟩ := read16_outside_changes hr hr'
  rw [takeReset_eq, hread]
  exact ⟨_, draws, _, rfl⟩

/-! ### The statement -/

/-- A mask set beside bits it does not overlap is read back through any mask that covers it and not them. -/
theorem or_and_eq_left {x y n : Byte} (hx : x &&& n = x) (hy : y &&& n = 0#8) : (x ||| y) &&& n = x := by
  rw [BitVec.and_comm, BitVec.and_or_distrib_left, BitVec.and_comm n x, BitVec.and_comm n y, hx, hy,
    BitVec.or_zero]

/-- Settles O50: the settled state holds the printed values, unit by unit, and the vector fetch reaches none of
them. -/
theorem resetRegisters : Obligations.ResetRegisters := by
  rintro c s _ rfl
  obtain ⟨pc, draws, owed, htaken⟩ := takeReset_changes c s
  rw [htaken]
  refine ⟨
    rfl, rfl, rfl, rfl, rfl, BitVec.zero_and, rfl, resetSettled_ports,
    rfl, rfl, rfl, rfl, rfl, rfl, rfl, rfl, rfl, rfl, rfl, rfl, rfl, rfl, rfl, rfl, rfl, rfl,
    ?spcr, rfl, ?baud, rfl, rfl, rfl, ?adctl,
    rfl, rfl,
    rfl, rfl, rfl, rfl, rfl, rfl, rfl,
    rfl, rfl, rfl, rfl, rfl,
    rfl, rfl, rfl, rfl, rfl, rfl, rfl,
    hprio_printed _, ?singleChip, ?expanded, csctl_printed _ _,
    rfl, rfl, rfl, rfl, rfl, rfl, rfl, rfl, rfl, rfl, rfl⟩
  case spcr => exact or_and_eq_left rfl (and_and_disjoint _ rfl)
  case baud | adctl => exact and_and_disjoint _ rfl
  case singleChip | expanded => exact fun hmode => congrArg (OpMode.csctl _) hmode

end Sys2Proof.Proofs
end
